-- ==== Sys2Proof/Word.lean ====
section
/-! DEFINITION. The plain types the machine's words, levels, frames and ports are made of. -/

namespace Sys2Proof

/-- One byte of a frame, one `PT` entry, one command word. -/
abbrev Byte := BitVec 8

/-- The level of the data line: `High` = 1, `Low` = 0 (R10). -/
inductive Level where
  | low
  | high
  deriving DecidableEq, Repr, Inhabited

/-- SensorFamily, the value of `FAMILY` (R35). -/
inductive Family where
  | dht11
  | dht22
  deriving DecidableEq, Repr, Inhabited

/-- A RawFrame: five bytes in the order of the wire (R28, R82). -/
structure Frame where
  /-- byte 0 -/
  humidityHigh : Byte
  /-- byte 1 -/
  humidityLow : Byte
  /-- byte 2 -/
  temperatureHigh : Byte
  /-- byte 3 -/
  temperatureLow : Byte
  /-- byte 4 -/
  checksum : Byte
  deriving DecidableEq, Repr, Inhabited

/-- The input ports as sampled in one tick (R21). -/
structure Inputs where
  /-- `rst`, synchronous reset (R230) -/
  rst : Bool
  /-- `cfg_family`, read only while `rst` = 1 (R42) -/
  cfgFamily : Bool
  /-- `sda_in` (R40) -/
  sdaIn : Level
  /-- `cmd_valid` (R41) -/
  cmdValid : Bool
  /-- `cmd[7:0]` (R41) -/
  cmd : Byte
  deriving DecidableEq, Repr, Inhabited

end Sys2Proof
end

