-- ==== Sys2Proof/Config.lean ====
section
/-! DEFINITION. The parameters of rule R8, fixed at the values the spec gives them, and the free values: what the
spec leaves to the outside (the level and the commands of ticks nobody scheduled, the strap) and what it leaves
unspecified (the reset values of five registers). A free value is opaque: no proof can see what it is. -/

namespace Sys2Proof

/-- The implementation parameters of R8 with the spec's values as defaults. -/
structure Params where
  tickUs : Nat := 1
  tIdle : Nat := 250
  tStartLow : Nat := 18000
  tStartHigh : Nat := 1
  tAck : Nat := 60
  tAckLow : Nat := 100
  tAckHigh : Nat := 100
  tSync : Nat := 100
  tData : Nat := 100
  tBit : Nat := 38
  nBits : Nat := 40
  nBytes : Nat := 5
  tCool : Nat := 2000000
  wTmr : Nat := 16
  wPt : Nat := 8
  wSince : Nat := 21
  wCmd : Nat := 8
  wData : Nat := 40
  deriving DecidableEq, Repr

namespace Config

/-- The parameters this model runs with: R8's value column. UNVERIFIED literals of the source (log 9). -/
def params : Params := {}

/-- `T_IDLE`, AwaitIdle limit in ticks (R8). -/
def tIdle : Nat := params.tIdle
/-- `T_START_LOW`, ticks the line is driven low (R8). -/
def tStartLow : Nat := params.tStartLow
/-- `T_START_HIGH`, ticks the line is driven high before release (R8). -/
def tStartHigh : Nat := params.tStartHigh
/-- `T_ACK`, AwaitAck limit (R8). -/
def tAck : Nat := params.tAck
/-- `T_ACKLOW`, AckLow limit (R8). -/
def tAckLow : Nat := params.tAckLow
/-- `T_ACKHIGH`, AckHigh limit (R8). -/
def tAckHigh : Nat := params.tAckHigh
/-- `T_SYNC`, BitSync limit (R8). -/
def tSync : Nat := params.tSync
/-- `T_DATA`, BitRise and BitHigh limit (R8). -/
def tData : Nat := params.tData
/-- `T_BIT`, bit threshold (R8). -/
def tBit : Nat := params.tBit
/-- `N_BITS`, pulses per frame (R8). -/
def nBits : Nat := params.nBits
/-- `T_COOL`, minimum ticks between accepted reads (R8). -/
def tCool : Nat := params.tCool

/-- DESIGN CHOICE (log 1): what host and line supply in a tick that `State.inputs` does not schedule. Nothing is
known of it (R6, R40). -/
opaque freeInputs : Nat → Inputs

/-- DESIGN CHOICE (log 4): the strap `cfg_family` seen by the reset that led to `State.reset` (R35, R48). -/
opaque strap : Family

/-- DESIGN CHOICE (log 3): the unspecified reset value of `PT[i]` at reset number `draw` (R48, U7). -/
opaque resetPt : Nat → Nat → Byte

/-- DESIGN CHOICE (log 3): the unspecified reset value of `FRAME` (R48, U7). -/
opaque resetFrame : Nat → Frame

/-- DESIGN CHOICE (log 3): the unspecified reset value of `RAW` (R48, R231, U1). -/
opaque resetRaw : Nat → Frame

/-- DESIGN CHOICE (log 3): the unspecified reset value of `TEMP` (R48, R231, U1). -/
opaque resetTemp : Nat → BitVec 16

/-- DESIGN CHOICE (log 3): the unspecified reset value of `HUM` (R48, R231, U1). -/
opaque resetHum : Nat → BitVec 16

end Config

end Sys2Proof
end

