-- ==== Sys2Proof/Syntax.lean ====
section
/-! DEFINITION. The host commands `DHTCMD` version 1: one constructor per row of spec/opcode_table.json, the two
fields of a command word, and the assembler's forms. -/

namespace Sys2Proof

/-- The six host commands (R88). No command has an operand (R95). -/
inductive Instr where
  /-- READ, 0x10 (R180) -/
  | read
  /-- GETT.C, 0x20 (R181) -/
  | gettC
  /-- GETT.F, 0x21 (R182) -/
  | gettF
  /-- GETT.K, 0x22 (R183) -/
  | gettK
  /-- GETH, 0x30 (R184) -/
  | geth
  /-- GETRAW, 0x40 (R185) -/
  | getraw
  deriving DecidableEq, Repr

/-- The fields of format `C`: `cmd[7:4]` = `op`, `cmd[3:0]` = `arg` (R87). -/
structure CmdFields where
  op : BitVec 4
  arg : BitVec 4
  deriving DecidableEq, Repr

/-- One line of command text (R95, R96): a mnemonic, the pseudo-instruction `GETT`, or a raw word `.cmd 0x<hh>`. -/
inductive AsmLine where
  | instr (i : Instr)
  | gett
  | rawWord (w : Byte)
  deriving DecidableEq, Repr

end Sys2Proof
end

