-- ==== Sys2Proof/WellFormed.lean ====
section
/-! DEFINITION. What is well-formed: the fields of a command word (R88, R89, R92), a command, and a set of
parameters (the constraints of R8). -/

namespace Sys2Proof

/-- `op` names an operation: 1 to 4 (R88, R92). -/
def CmdFields.opKnown (f : CmdFields) : Bool := 1 ≤ f.op.toNat && f.op.toNat ≤ 4

/-- For GETT (`op` = 2) `arg` names a unit, 0 to 2 (R89, R92). -/
def CmdFields.unitKnown (f : CmdFields) : Bool := f.op.toNat != 2 || f.arg.toNat ≤ 2

/-- For every other operation `arg` is 0 (R87, R92). -/
def CmdFields.argZero (f : CmdFields) : Bool := f.op.toNat == 2 || f.arg.toNat == 0

/-- The fields select a command: none of the cases R92 lists as reserved. -/
def CmdFields.wf (f : CmdFields) : Bool := f.opKnown && f.unitKnown && f.argZero

/-- Every command is well-formed: none has an operand that could be out of range (R95). -/
def Instr.wf : Instr → Bool
  | .read => true
  | .gettC => true
  | .gettF => true
  | .gettK => true
  | .geth => true
  | .getraw => true

/-- Every limit plus 1 fits in `W_TMR` bits (R8). -/
def Params.limitsFit (p : Params) : Bool :=
  [p.tIdle, p.tAck, p.tAckLow, p.tAckHigh, p.tSync, p.tData].all fun limit => limit + 1 < 2 ^ p.wTmr

/-- The constraints R8 puts on the parameters. -/
def Params.wf (p : Params) : Bool :=
  1 ≤ p.tStartLow && 1 ≤ p.tStartHigh && p.limitsFit && p.tStartLow - 1 < 2 ^ p.wTmr && p.tData + 1 < 2 ^ p.wPt
    && p.tCool < 2 ^ p.wSince && p.nBits == 8 * p.nBytes

end Sys2Proof
end

