-- ==== Sys2Proof/Decode.lean ====
section
/-! DEFINITION. The decoder of command words, total on all 256 words, rejecting each reserved word by name; after it
the encoder and the assembler's forms, written from the same table (R87 to R89, R92, R95, R96). -/

namespace Sys2Proof

/-- Why a word is reserved: the four cases of R92 (the names are the model's, log 11). -/
inductive Reserved where
  /-- `op` = 0 -/
  | opZero
  /-- `op` >= 5 -/
  | opAbove
  /-- `op` = 2 with `arg` >= 3 -/
  | unitAbove
  /-- `op` in 1, 3, 4 with `arg` != 0 -/
  | argNonzero
  deriving DecidableEq, Repr

/-- What the decoder answers: a command, or the name of the reserved case. -/
inductive Decoded where
  | instr (i : Instr)
  | reserved (r : Reserved)
  deriving DecidableEq, Repr

/-- Split a word into `op` and `arg` (R87). -/
def CmdFields.ofWord (w : Byte) : CmdFields := ⟨w.extractLsb' 4 4, w.extractLsb' 0 4⟩

/-- Join `op` and `arg` into a word (R87). -/
def CmdFields.word (f : CmdFields) : Byte := f.op ++ f.arg

/-- The opcode map of R88, R89 and the reserved cases of R92. -/
def decodeFields (f : CmdFields) : Decoded :=
  match f.op.toNat, f.arg.toNat with
  | 0, _ => .reserved .opZero
  | 1, 0 => .instr .read
  | 1, _ => .reserved .argNonzero
  | 2, 0 => .instr .gettC
  | 2, 1 => .instr .gettF
  | 2, 2 => .instr .gettK
  | 2, _ => .reserved .unitAbove
  | 3, 0 => .instr .geth
  | 3, _ => .reserved .argNonzero
  | 4, 0 => .instr .getraw
  | 4, _ => .reserved .argNonzero
  | _, _ => .reserved .opAbove

/-- Decode one command word. The family strap and the state play no part (R94). -/
def decode (w : Byte) : Decoded := decodeFields (CmdFields.ofWord w)

/-- The command a word selects, if it selects one. -/
def Decoded.toOption : Decoded → Option Instr
  | .instr i => some i
  | .reserved _ => none

/-- The decoder's reading of an opcode-table word: a command is the one byte the host puts on `cmd`, so the bits from
8 on belong to no command and bits from `nbits` on are 0. -/
def decodeTableWord (nbits w : Nat) : Option Instr := (decode (BitVec.ofNat 8 (w % 2 ^ nbits))).toOption

/-- The fields of a command's word (R88, R89). -/
def Instr.fields : Instr → CmdFields
  | .read => ⟨1, 0⟩
  | .gettC => ⟨2, 0⟩
  | .gettF => ⟨2, 1⟩
  | .gettK => ⟨2, 2⟩
  | .geth => ⟨3, 0⟩
  | .getraw => ⟨4, 0⟩

/-- The word of a command. -/
def encode (i : Instr) : Byte := i.fields.word

/-- The spelling of a command (R95). -/
def Instr.mnemonic : Instr → String
  | .read => "READ"
  | .gettC => "GETT.C"
  | .gettF => "GETT.F"
  | .gettK => "GETT.K"
  | .geth => "GETH"
  | .getraw => "GETRAW"

/-- The word a line of command text stands for: `GETT` with no suffix is GETT.C (R96). -/
def AsmLine.word : AsmLine → Byte
  | .instr i => encode i
  | .gett => encode .gettC
  | .rawWord w => w

/-- One hexadecimal digit. -/
def hexDigit (d : BitVec 4) : String :=
  (["0", "1", "2", "3", "4", "5", "6", "7", "8", "9", "A", "B", "C", "D", "E", "F"][d.toNat]?).getD ""

/-- The text of a line of commands (R95, R96). -/
def AsmLine.text : AsmLine → String
  | .instr i => i.mnemonic
  | .gett => "GETT"
  | .rawWord w => ".cmd 0x" ++ hexDigit (w.extractLsb' 4 4) ++ hexDigit (w.extractLsb' 0 4)

end Sys2Proof
end

