-- ==== Sys2Proof/Machine/State.lean ====
section
/-! DEFINITION. The state of the block (R20), its response port (R47), the scheduled inputs, and the state after
reset (R48). -/

namespace Sys2Proof.Machine

/-- The twelve values of the state register `ST` (R22). Its bit pattern is not visible anywhere (D27). -/
inductive St where
  | idle
  | awaitIdle
  | startLow
  | startHigh
  | awaitAck
  | ackLow
  | ackHigh
  | bitSync
  | bitRise
  | bitHigh
  | decode
  | check
  deriving DecidableEq, Repr, Inhabited

/-- The outcomes a response can name (R91). `success` answers READ, `ok` answers queries; both are code 0. -/
inductive Status where
  | success
  | ok
  | rateLimited
  | busBusy
  | notPresent
  | badStart
  | syncTimeout
  | dataTimeout
  | checksumMismatch
  | badCommand
  deriving DecidableEq, Repr

/-- The response port in one tick (R47, R90). -/
structure Rsp where
  /-- `rsp_valid` -/
  valid : Bool
  /-- `rsp_status[3:0]` -/
  status : BitVec 4
  /-- `rsp_dv` -/
  dv : Bool
  /-- `rsp_data[39:0]` -/
  data : BitVec 40
  deriving DecidableEq, Repr

/-- The port in a tick without a response: `rsp_valid` = 0 and the other three 0 (R47). -/
def Rsp.silent : Rsp := ⟨false, 0, false, 0⟩

/-- The complete state (R20), the ports that make a tick a function of it (R21), and the model's own counter. -/
structure State where
  /-- `ST`, the state register (R22) -/
  st : St
  /-- `TMR`, ticks already spent in the current state (R24) -/
  tmr : BitVec 16
  /-- `BITI`, index of the bit being received (R25) -/
  biti : BitVec 6
  /-- `PT[0..39]`, PulseTimings (R27) -/
  pt : Vector Byte 40
  /-- `FRAME[0..4]`, the decoder's frame (R28) -/
  frame : Frame
  /-- `RAW[0..4]`, the frame of the last good read (R29) -/
  raw : Frame
  /-- `TEMP`, signed tenths of a degree Celsius (R30) -/
  temp : BitVec 16
  /-- `HUM`, unsigned tenths of a percent (R31) -/
  hum : BitVec 16
  /-- `VALID`, the only flag (R34) -/
  valid : Bool
  /-- `FAMILY` (R35) -/
  family : Family
  /-- `SINCE`, ticks since the last accepted read, saturating at `T_COOL` (R36) -/
  since : BitVec 21
  /-- the response port as the tick just executed drove it (R47, log 5) -/
  rsp : Rsp
  /-- the input ports of the coming ticks, the next one first (R21, log 1) -/
  inputs : List Inputs
  /-- the model's own count of ticks, which numbers the free values and is never reset (log 2) -/
  draw : Nat
  deriving DecidableEq, Repr

/-- No behaviour of this block is a fault that stops it (R7, 93_implementation_defined.md part 1): the type is empty,
and the errors of R91 are responses. -/
inductive Fault where
  deriving DecidableEq, Repr

/-- Why a step has no meaning. -/
inductive Refusal where
  /-- Raised by an arm of `exec` whose command has no meaning in this model yet; safe, since nothing is then proved of
  the command. No arm of this model raises it. -/
  | notModelled (mnemonic : String)
  deriving DecidableEq, Repr

/-- Every register at its reset value (R48): `PT`, `FRAME`, `RAW`, `TEMP` and `HUM` are unspecified there and take the
free values of draw `d` (log 3); the family and the inputs still to come are given. -/
def State.resetValues (family : Family) (d : Nat) (inputs : List Inputs) : State where
  st := .idle
  tmr := 0
  biti := 0
  pt := Vector.ofFn fun i => Config.resetPt d i.val
  frame := Config.resetFrame d
  raw := Config.resetRaw d
  temp := Config.resetTemp d
  hum := Config.resetHum d
  valid := false
  family := family
  since := BitVec.ofNat 21 Config.tCool
  rsp := Rsp.silent
  inputs := inputs
  draw := d

/-- The machine right after reset (R48): the strap is a free value (log 4) and no input is scheduled (log 1). -/
def State.reset : State := State.resetValues Config.strap 0 []

end Sys2Proof.Machine
end

