-- ==== Sys2Proof/Machine/Operands.lean ====
section
/-! DEFINITION. The combinational functions over levels, pulse widths, frames and readings: codings (R10, R35, R91), bit
extraction and frame assembly (R128, R129), the value converter (R160 to R168) and the response data (R90). -/

namespace Sys2Proof

/-- The numeric coding of a level (R10). -/
def Level.bit : Level → BitVec 1
  | .low => 0
  | .high => 1

/-- The coding of `FAMILY`: 0 = DHT11, 1 = DHT22 (R35). -/
def Family.code : Family → BitVec 1
  | .dht11 => 0
  | .dht22 => 1

/-- The family the strap `cfg_family` names (R35). -/
def Family.ofStrap : Bool → Family
  | false => .dht11
  | true => .dht22

/-- `{f[0], f[1], f[2], f[3], f[4]}`, the 40-bit word in wire order (R64, R82). -/
def Frame.word (f : Frame) : BitVec 40 :=
  f.humidityHigh ++ f.humidityLow ++ f.temperatureHigh ++ f.temperatureLow ++ f.checksum

namespace Machine

/-- The 4-bit status codes (R91). -/
def Status.code : Status → BitVec 4
  | .success => 0
  | .ok => 0
  | .rateLimited => 1
  | .busBusy => 2
  | .notPresent => 3
  | .badStart => 4
  | .syncTimeout => 5
  | .dataTimeout => 6
  | .checksumMismatch => 7
  | .badCommand => 15

/-- `decodeBit(d)`: 1 if `d >= T_BIT`, else 0, for any unsigned integer (R128). -/
def decodeBit (d : Nat) : Nat := if Config.tBit ≤ d then 1 else 0

/-- The bit pulse `i` carries. Only `i` < 40 is ever asked for (R62). -/
def pulseBit (pt : Vector Byte 40) (i : Nat) : Nat := decodeBit ((pt[i]?).getD 0).toNat

/-- Byte `j` of the frame: the sum over `k` of `decodeBit(PT[8*j + k]) << (7 - k)` (R129). -/
def frameByte (pt : Vector Byte 40) (j : Nat) : Byte :=
  BitVec.ofNat 8 (((List.range 8).map fun k => pulseBit pt (8 * j + k) <<< (7 - k)).sum)

/-- The five bytes Decode packs (R129). -/
def assembleFrame (pt : Vector Byte 40) : Frame :=
  ⟨frameByte pt 0, frameByte pt 1, frameByte pt 2, frameByte pt 3, frameByte pt 4⟩

/-- DHT11 temperature in tenths of a degree: `10 * FRAME[2]` (R161). -/
def dht11Temp (f : Frame) : Int := 10 * (f.temperatureHigh.toNat : Int)

/-- DHT11 humidity in tenths of a percent: `10 * FRAME[0]` (R162). -/
def dht11Hum (f : Frame) : Nat := 10 * f.humidityHigh.toNat

/-- `rawT = 256 * FRAME[2][6:0] + FRAME[3]` (R85, R164). -/
def rawT (f : Frame) : Nat := 256 * (f.temperatureHigh.extractLsb' 0 7).toNat + f.temperatureLow.toNat

/-- DHT22 temperature in tenths of a degree, sign and magnitude (R164); the pattern 0x80 0x00 is 0 (R165). -/
def dht22Temp (f : Frame) : Int := if f.temperatureHigh.getLsbD 7 then -(rawT f : Int) else (rawT f : Int)

/-- DHT22 humidity in tenths of a percent: `rawH = 256 * FRAME[0] + FRAME[1]` (R84, R163). -/
def dht22Hum (f : Frame) : Nat := 256 * f.humidityHigh.toNat + f.humidityLow.toNat

/-- The temperature a frame means, in tenths, chosen by `FAMILY` alone (R160). -/
def convertTemp : Family → Frame → Int
  | .dht11, f => dht11Temp f
  | .dht22, f => dht22Temp f

/-- The humidity a frame means, in tenths, chosen by `FAMILY` alone (R160). -/
def convertHum : Family → Frame → Nat
  | .dht11, f => dht11Hum f
  | .dht22, f => dht22Hum f

/-- `10 * TEMP`, hundredths of a degree Celsius (R166). -/
def toCelsius (tenths : Int) : Int := 10 * tenths

/-- `18 * TEMP + 3200`, hundredths of a degree Fahrenheit (R167). -/
def toFahrenheit (tenths : Int) : Int := 18 * tenths + 3200

/-- `10 * TEMP + 27315`, hundredths of a kelvin (R168). -/
def toKelvin (tenths : Int) : Int := 10 * tenths + 27315

/-- `sext_40(v)` (R11, R90). -/
def sext40 (v : Int) : BitVec 40 := BitVec.ofInt 40 v

/-- `zext_40(v)` (R11, R90). -/
def zext40 (v : BitVec 16) : BitVec 40 := v.setWidth 40

end Machine

end Sys2Proof
end

