-- ==== Sys2Proof/Machine/Flags.lean ====
section
/-! DEFINITION. The checksum validator (R150) and the outputs that are functions of the state register (R43 to R46). The
only flag, `VALID`, is written by Check alone (R34, Machine/Session.lean). -/

namespace Sys2Proof.Machine

/-- The sum of the four data bytes in the unbounded integers, 0..1020 (R150). -/
def dataSum (f : Frame) : Nat :=
  f.humidityHigh.toNat + f.humidityLow.toNat + f.temperatureHigh.toNat + f.temperatureLow.toNat

/-- `checksumOk(f)`: `f[4]` is the sum of the other four bytes modulo 256 (R150). -/
def checksumOk (f : Frame) : Bool := f.checksum.toNat == dataSum f % 256

/-- `sda_oe` = 1 exactly in StartLow and StartHigh (R43). -/
def St.sdaOe : St → Bool
  | .startLow | .startHigh => true
  | .idle | .awaitIdle | .awaitAck | .ackLow | .ackHigh | .bitSync | .bitRise | .bitHigh | .decode | .check => false

/-- `sda_out` = 0 exactly in StartLow (R44). -/
def St.sdaOut : St → Level
  | .startLow => .low
  | .idle | .awaitIdle | .startHigh | .awaitAck | .ackLow | .ackHigh | .bitSync | .bitRise | .bitHigh | .decode
  | .check => .high

/-- `crit_o` = 1 exactly in the six states of the critical region (R45, R124). -/
def St.critO : St → Bool
  | .awaitAck | .ackLow | .ackHigh | .bitSync | .bitRise | .bitHigh => true
  | .idle | .awaitIdle | .startLow | .startHigh | .decode | .check => false

/-- `cmd_ready` = 1 exactly in Idle (R46). -/
def St.cmdReady : St → Bool
  | .idle => true
  | .awaitIdle | .startLow | .startHigh | .awaitAck | .ackLow | .ackHigh | .bitSync | .bitRise | .bitHigh | .decode
  | .check => false

end Sys2Proof.Machine
end

