-- ==== Sys2Proof/Machine/Ops.lean ====
section
/-! DEFINITION. The operations every rule is written with: this tick's inputs, the default update of a tick (R111, R190),
`respond` (R90), the error exit `raise` (R213), the timed wait (R113) and the reset tick (R230). A rule reads the old
state `s` and builds the new one on `s.elapse`, so every read sees the start-of-tick value (R12). There is no return
from an error and nothing is saved by one (R213, R214). -/

namespace Sys2Proof.Machine

/-- The inputs of the tick `j` ticks from now: the scheduled ones, and past the schedule's end a free value (log 1). -/
def State.inputAt (s : State) (j : Nat) : Inputs := (s.inputs[j]?).getD (Config.freeInputs (s.draw + j))

/-- `in`: this tick's inputs (R13). -/
def State.now (s : State) : Inputs := s.inputAt 0

/-- `min(SINCE + 1, T_COOL)` (R36, R190). -/
def sinceNext (v : BitVec 21) : BitVec 21 := BitVec.ofNat 21 (min (v.toNat + 1) Config.tCool)

/-- The default of every tick: `SINCE` counts, no response is driven, and the tick's inputs are gone (R47, R111). -/
def State.elapse (s : State) : State :=
  { s with since := sinceNext s.since, rsp := Rsp.silent, inputs := s.inputs.tail, draw := s.draw + 1 }

/-- `ST <- x; TMR <- 0` (R111). -/
def State.goto (s : State) (x : St) : State := { s with st := x, tmr := 0 }

/-- `TMR <- TMR + 1` (R113); `TMR` would wrap only in states no run reaches (log 8). -/
def State.count (s : State) : State := { s with tmr := s.tmr + 1 }

/-- `respond(status, data)`: `t` is the state the tick leads to, so `rsp_dv` is `VALID'` (R47, R90). -/
def respond (status : Status) (data : BitVec 40) (t : State) : State :=
  { t with rsp := ⟨true, status.code, t.valid, data⟩ }

/-- `raise E`, the error exit: the response, `ST <- Idle`, `TMR <- 0`, nothing else (R213). -/
def raiseError (e : Status) (s : State) : State := respond e 0 (s.elapse.goto .idle)

/-- `wait(level, limit, Error, next)`: the level first, then the deadline, strictly (R113, R211). -/
def timedWait (level : Level) (limit : Nat) (e : Status) (next : St) (s : State) : State :=
  if s.now.sdaIn = level then s.elapse.goto next
  else if limit < s.tmr.toNat then raiseError e s
  else s.elapse.count

/-- A hold of `ticks` ticks (R116, R117): no level is looked at and nothing can go wrong. -/
def hold (ticks : Nat) (next : St) (s : State) : State :=
  if s.tmr.toNat = ticks - 1 then s.elapse.goto next else s.elapse.count

/-- A tick with `rst` = 1: no rule runs, every register takes its reset value, `FAMILY <- cfg_family` (R230, R232). -/
def tickReset (s : State) : State :=
  State.resetValues (Family.ofStrap s.now.cfgFamily) (s.draw + 1) s.inputs.tail

end Sys2Proof.Machine
end

