-- ==== Sys2Proof/Machine/Protocol.lean ====
section
/-! DEFINITION. The protocol decoder: one tick in each of its states, from AwaitIdle to Decode (R115 to R129). -/

namespace Sys2Proof.Machine

/-- AwaitIdle (R115). -/
def tickAwaitIdle (s : State) : State := timedWait .high Config.tIdle .busBusy .startLow s

/-- StartLow (R116). -/
def tickStartLow (s : State) : State := hold Config.tStartLow .startHigh s

/-- StartHigh (R117). -/
def tickStartHigh (s : State) : State := hold Config.tStartHigh .awaitAck s

/-- AwaitAck (R118): it waits for High. -/
def tickAwaitAck (s : State) : State := timedWait .high Config.tAck .notPresent .ackLow s

/-- AckLow (R119). -/
def tickAckLow (s : State) : State := timedWait .low Config.tAckLow .badStart .ackHigh s

/-- AckHigh (R120): the timed wait with `BITI <- 0` added on success. -/
def tickAckHigh (s : State) : State :=
  if s.now.sdaIn = .high then { s.elapse.goto .bitSync with biti := 0 }
  else timedWait .high Config.tAckHigh .badStart .bitSync s

/-- BitSync (R122). -/
def tickBitSync (s : State) : State := timedWait .low Config.tSync .syncTimeout .bitRise s

/-- BitRise (R123). -/
def tickBitRise (s : State) : State := timedWait .high Config.tData .dataTimeout .bitHigh s

/-- The end of a High phase: `PT[BITI] <- TMR[7:0]`, then Decode after the last bit or BitSync for the next (R126). A write
outside `PT` would be dropped, in states no run reaches (R62, log 7). -/
def capturePulse (s : State) : State :=
  let t := { s.elapse with pt := s.pt.setIfInBounds s.biti.toNat (s.tmr.extractLsb' 0 8) }
  if s.biti.toNat = Config.nBits - 1 then t.goto .decode
  else { t.goto .bitSync with biti := s.biti + 1 }

/-- BitHigh (R126). -/
def tickBitHigh (s : State) : State :=
  if s.now.sdaIn = .low then capturePulse s
  else if Config.tData < s.tmr.toNat then raiseError .dataTimeout s
  else s.elapse.count

/-- Decode (R129). -/
def tickDecode (s : State) : State := { s.elapse.goto .check with frame := assembleFrame s.pt }

end Sys2Proof.Machine
end

