-- ==== Sys2Proof/Machine/Session.lean ====
section
/-! DEFINITION. Session control: the command READ (R180), the Idle tick (R112), reserved words (R186) and the Check state
that commits a read or reports ChecksumMismatch (R189). -/

namespace Sys2Proof.Machine

/-- READ in the tick it is consumed (R180). Its further ticks are the states of Machine/Protocol.lean and Check; a command
is consumed in Idle only, which the tick sees to (R187, log 6). -/
def execRead (s : State) : Host.Outcome State Fault Refusal :=
  if s.since.toNat < Config.tCool then .next (respond .rateLimited 0 s.elapse)
  else .next { s.elapse.goto .awaitIdle with since := 1 }

/-- Idle without a command: nothing but the default of the tick (R112). -/
def tickIdle (s : State) : State := s.elapse

/-- A reserved word is consumed: BadCommand, no state change (R92, R186, R208). -/
def tickReserved (s : State) : State := respond .badCommand 0 s.elapse

/-- The commit of a good read: `RAW`, `TEMP`, `HUM`, `VALID` in one tick (R32, R66, R189). -/
def commit (s : State) : State :=
  respond .success 0
    { s.elapse.goto .idle with
      raw := s.frame
      temp := BitVec.ofInt 16 (convertTemp s.family s.frame)
      hum := BitVec.ofNat 16 (convertHum s.family s.frame)
      valid := true }

/-- Check (R189): ChecksumMismatch takes the error exit (R213). -/
def tickCheck (s : State) : State := if checksumOk s.frame then commit s else raiseError .checksumMismatch s

end Sys2Proof.Machine
end

