-- ==== Sys2Proof/Machine/Query.lean ====
section
/-! DEFINITION. The five queries (R181 to R185): each answers Ok in the tick it is consumed and writes no register. With
`VALID` = 0 the data is the conversion of the register's unspecified reset value and `rsp_dv` is 0 (R67, U1). -/

namespace Sys2Proof.Machine

/-- Answer a query: `respond(Ok, data)`, nothing else. -/
def answer (data : BitVec 40) (s : State) : Host.Outcome State Fault Refusal := .next (respond .ok data s.elapse)

/-- GETT.C (R181, R166). -/
def execGettC (s : State) : Host.Outcome State Fault Refusal := answer (sext40 (toCelsius s.temp.toInt)) s

/-- GETT.F (R182, R167). -/
def execGettF (s : State) : Host.Outcome State Fault Refusal := answer (sext40 (toFahrenheit s.temp.toInt)) s

/-- GETT.K (R183, R168). -/
def execGettK (s : State) : Host.Outcome State Fault Refusal := answer (sext40 (toKelvin s.temp.toInt)) s

/-- GETH (R184). -/
def execGeth (s : State) : Host.Outcome State Fault Refusal := answer (zext40 s.hum) s

/-- GETRAW (R185): it reads `RAW`, never `FRAME`. -/
def execGetraw (s : State) : Host.Outcome State Fault Refusal := answer s.raw.word s

end Sys2Proof.Machine
end

