-- ==== Sys2Proof/Machine/Dispatch.lean ====
section
/-! DEFINITION. The meaning of every host command, one arm per constructor of Instr. -/

namespace Sys2Proof.Machine

-- What a command does in the tick that consumes it (R180 to R185).
def exec (i : Instr) (s : State) : Host.Outcome State Fault Refusal :=
  match i with
  | .read => Sys2Proof.Machine.execRead s
  | .gettC => Sys2Proof.Machine.execGettC s
  | .gettF => Sys2Proof.Machine.execGettF s
  | .gettK => Sys2Proof.Machine.execGettK s
  | .geth => Sys2Proof.Machine.execGeth s
  | .getraw => Sys2Proof.Machine.execGetraw s

end Sys2Proof.Machine
end

