-- ==== Sys2Proof/Machine/Tick.lean ====
section
/-! DEFINITION. One tick (R111): reset first (R230), else the rule of the state `ST` holds and only that one; in Idle the
command port is read (R187). -/

namespace Sys2Proof.Machine

/-- Idle with `rst` = 0: a command is consumed iff `cmd_valid` = 1 (R41, R187); `run` gives a command its meaning. -/
def idleWith (run : Instr → State → Host.Outcome State Fault Refusal) (s : State) : Host.Outcome State Fault Refusal :=
  if s.now.cmdValid then
    match decode s.now.cmd with
    | .instr i => run i s
    | .reserved _ => .next (tickReserved s)
  else .next (tickIdle s)

/-- One tick (R111). -/
def tickWith (run : Instr → State → Host.Outcome State Fault Refusal) (s : State) : Host.Outcome State Fault Refusal :=
  if s.now.rst then .next (tickReset s)
  else
    match s.st with
    | .idle => idleWith run s
    | .awaitIdle => .next (tickAwaitIdle s)
    | .startLow => .next (tickStartLow s)
    | .startHigh => .next (tickStartHigh s)
    | .awaitAck => .next (tickAwaitAck s)
    | .ackLow => .next (tickAckLow s)
    | .ackHigh => .next (tickAckHigh s)
    | .bitSync => .next (tickBitSync s)
    | .bitRise => .next (tickBitRise s)
    | .bitHigh => .next (tickBitHigh s)
    | .decode => .next (tickDecode s)
    | .check => .next (tickCheck s)

end Sys2Proof.Machine
end

