-- ==== Sys2Proof/Machine/Step.lean ====
section
/-! DEFINITION. The step function: one tick (R111), with every command's meaning from `exec`; and how a command word is
placed where the next step takes it. -/

namespace Sys2Proof.Machine

/-- One tick of the block (R9, R111). -/
def step (s : State) : Host.Outcome State Fault Refusal := tickWith exec s

/-- `s` with the command word placed so that the very next step consumes it: the block in Idle and the word presented on
the command port of the next tick, with `rst` = 0 (R41, R187, log 10). What was scheduled comes after it. -/
def State.withFetchWord (s : State) (nbits w : Nat) : State :=
  { s with
    st := .idle
    inputs := ⟨false, false, .high, true, BitVec.ofNat 8 (w % 2 ^ nbits)⟩ :: s.inputs }

end Sys2Proof.Machine
end

