-- ==== Sys2Proof/Machine/Stimulus.lean ====
section
/-! DEFINITION. The notation of the spec for stimuli: waveforms (R97), the model sensor `SENSOR(...)` (R98) and test programs
(R99). None of it is part of the block; it supplies inputs only. -/

namespace Sys2Proof.Machine

/-- A waveform: runs of one level, `H<n>` = `(.high, n)`, `L<n>` = `(.low, n)` (R97). -/
abbrev Waveform := List (Level × Nat)

/-- The levels of a waveform, one per tick (R97). -/
def waveLevels (w : Waveform) : List Level := w.flatMap fun run => List.replicate run.2 run.1

/-- The level `k` ticks into a waveform, while it lasts. -/
def waveLevel : Waveform → Nat → Option Level
  | [], _ => none
  | (l, n) :: w, k => if k < n then some l else waveLevel w (k - n)

/-- The line at tick `t`: placed waveforms, and High where none says otherwise (R97). DESIGN CHOICE (log 15): where two
placed waveforms cover `t` the spec is silent, and the first listed one gives the level. -/
def lineAt : List (Nat × Waveform) → Nat → Level
  | [], _ => .high
  | (start, w) :: rest, t =>
    if t < start then lineAt rest t
    else
      match waveLevel w (t - start) with
      | some l => l
      | none => lineAt rest t

/-- The forty bits of a frame in order of arrival: pulse `i` is bit `W[39 - i]` (R63, R82). -/
def frameBits (f : Frame) : List Bool := (List.range 40).map fun i => f.word.getLsbD (39 - i)

/-- Ticks of the High phase of the model sensor: 27 for a 0, 70 for a 1 (R98). -/
def highTicks (b : Bool) : Nat := if b then 70 else 27

/-- One bit cell of the model sensor: `L50` and then the High phase (R81, R98). -/
def bitCell (b : Bool) : Waveform := [(.low, 50), (.high, highTicks b)]

/-- `SENSOR(b0 b1 b2 b3 b4)` (R98), from the first AwaitAck tick on. -/
def sensor (f : Frame) : Waveform :=
  [(.high, 30), (.low, 80), (.high, 80)] ++ (frameBits f).flatMap bitCell ++ [(.low, 50)]

/-- A test program: a strap, commands with the tick each is presented at, and waveforms (R99). -/
structure Program where
  strap : Bool
  commands : List (Nat × Byte)
  line : List (Nat × Waveform)
  deriving DecidableEq, Repr

/-- A running test program: the block, the tick number, the commands not yet consumed, the responses with their ticks. -/
structure Bench where
  state : State
  tick : Nat
  waiting : List (Nat × Byte)
  responses : List (Nat × Rsp)
  deriving DecidableEq, Repr

/-- The start of a test program: tick 0, right after a reset with the program's strap (R99). -/
def benchStart (p : Program) : Bench := ⟨State.resetValues (Family.ofStrap p.strap) 0 [], 0, p.commands, []⟩

/-- The inputs of one tick of a test program: the first waiting command is presented from its tick on (R99). -/
def benchInputs (p : Program) (b : Bench) : Inputs :=
  let level := lineAt p.line b.tick
  match b.waiting with
  | (t, w) :: _ => if t ≤ b.tick then ⟨false, p.strap, level, true, w⟩ else ⟨false, p.strap, level, false, 0⟩
  | [] => ⟨false, p.strap, level, false, 0⟩

/-- The commands still waiting after a tick: the presented one is gone iff it was consumed (R99, R187, log 14). -/
def benchWaiting (b : Bench) (i : Inputs) : List (Nat × Byte) :=
  if i.cmdValid && b.state.st.cmdReady then b.waiting.tail else b.waiting

/-- One tick of a test program. -/
def benchTick (p : Program) (b : Bench) : Bench :=
  let i := benchInputs p b
  match step { b.state with inputs := [i] } with
  | .next s => ⟨s, b.tick + 1, benchWaiting b i, if s.rsp.valid then b.responses ++ [(b.tick, s.rsp)] else b.responses⟩
  | .fault _ => b
  | .refused _ => b

/-- A test program after `n` ticks: its responses and its end state (R99). -/
def benchRun (p : Program) : Nat → Bench → Bench
  | 0, b => b
  | n + 1, b => benchRun p n (benchTick p b)

end Sys2Proof.Machine
end

