-- ==== Sys2Proof/Safety.lean ====
section
/-! DEFINITION. The words claims are stated with: runs, the tick that accepts a READ, the Check that commits one, a
tick that writes no register, the tables of waits and of successor states, and the invariant of R49. -/

namespace Sys2Proof.Machine

/-- `k` ticks, stopping at a fault or a refusal. -/
def runTicks : Nat → State → Host.Outcome State Fault Refusal
  | 0, s => .next s
  | k + 1, s =>
    match step s with
    | .next t => runTicks k t
    | .fault r => .fault r
    | .refused r => .refused r

/-- This tick consumes a READ that is not rate-limited: an accepted read (00_scope.md glossary, R180). -/
abbrev State.accepts (s : State) : Prop :=
  s.now.rst = false ∧ s.st = .idle ∧ s.now.cmdValid = true ∧ s.now.cmd = 0x10 ∧ 2000000 ≤ s.since.toNat

/-- This tick, if it is no reset tick, is the Check of a successful read (R189). -/
abbrev State.commits (s : State) : Prop := s.st = .check ∧ checksumOk s.frame = true

/-- None of the first `k` ticks is a reset tick. -/
abbrev State.noResetFor (s : State) (k : Nat) : Prop := ∀ j < k, (s.inputAt j).rst = false

/-- `s` after a tick that writes no register and drives the response port with `r`: `SINCE` takes its default update
(R190), the tick's inputs are gone, and every other field is as before. -/
def State.onlyTicks (s : State) (r : Rsp) : State :=
  { s with
    since := BitVec.ofNat 21 (min (s.since.toNat + 1) 2000000)
    rsp := r
    inputs := s.inputs.tail
    draw := s.draw + 1 }

/-- One line of R222's table for a timed wait: the level awaited, the limit, the status code, the next state. -/
structure WaitRow where
  state : St
  level : Level
  limit : Nat
  code : BitVec 4
  next : St
  deriving DecidableEq, Repr

/-- The waiting states that are R113's timed wait and nothing else (R115, R118, R119, R122, R123). -/
def pureWaits : List WaitRow :=
  [⟨.awaitIdle, .high, 250, 2, .startLow⟩, ⟨.awaitAck, .high, 60, 3, .ackLow⟩, ⟨.ackLow, .low, 100, 4, .ackHigh⟩,
   ⟨.bitSync, .low, 100, 5, .bitRise⟩, ⟨.bitRise, .high, 100, 6, .bitHigh⟩]

/-- The sixth timed wait, AckHigh's, which also clears `BITI` on success (R120). -/
def ackHighWait : WaitRow := ⟨.ackHigh, .high, 100, 4, .bitSync⟩

/-- The states a tick without reset can lead to (R23). -/
def St.successors : St → List St
  | .idle => [.idle, .awaitIdle]
  | .awaitIdle => [.awaitIdle, .startLow, .idle]
  | .startLow => [.startLow, .startHigh]
  | .startHigh => [.startHigh, .awaitAck]
  | .awaitAck => [.awaitAck, .ackLow, .idle]
  | .ackLow => [.ackLow, .ackHigh, .idle]
  | .ackHigh => [.ackHigh, .bitSync, .idle]
  | .bitSync => [.bitSync, .bitRise, .idle]
  | .bitRise => [.bitRise, .bitHigh, .idle]
  | .bitHigh => [.bitHigh, .bitSync, .decode, .idle]
  | .decode => [.check]
  | .check => [.idle]

/-- The largest `TMR` of each state (R24, R49(a), R49(c)). -/
def St.tmrCeiling : St → Nat
  | .idle => 0
  | .awaitIdle => 251
  | .startLow => 17999
  | .startHigh => 0
  | .awaitAck => 61
  | .ackLow => 101
  | .ackHigh => 101
  | .bitSync => 101
  | .bitRise => 101
  | .bitHigh => 101
  | .decode => 0
  | .check => 0

/-- The least `SINCE` at the first tick of a state, for bit `i` where the state is one of a bit: the sums of R246's column
"least". -/
def St.earliest (x : St) (i : Nat) : Nat :=
  match x with
  | .idle => 0
  | .awaitIdle => 1
  | .startLow => 2
  | .startHigh => 18002
  | .awaitAck => 18003
  | .ackLow => 18004
  | .ackHigh => 18005
  | .bitSync => 18006 + 3 * i
  | .bitRise => 18007 + 3 * i
  | .bitHigh => 18008 + 3 * i
  | .decode => 18126
  | .check => 18127

/-- The greatest `SINCE` at the first tick of a state: the sums of R246's column "most". -/
def St.latest (x : St) (i : Nat) : Nat :=
  match x with
  | .idle => 0
  | .awaitIdle => 1
  | .startLow => 253
  | .startHigh => 18253
  | .awaitAck => 18254
  | .ackLow => 18316
  | .ackHigh => 18418
  | .bitSync => 18520 + 306 * i
  | .bitRise => 18622 + 306 * i
  | .bitHigh => 18724 + 306 * i
  | .decode => 30760
  | .check => 30761

/-- R49(a) and (c): `TMR` stays within the ceiling of its state. -/
abbrev State.tmrInRange (s : State) : Prop := s.tmr.toNat ≤ s.st.tmrCeiling

/-- R49(b). -/
abbrev State.bitiInRange (s : State) : Prop := s.biti.toNat ≤ 39

/-- R49(d). -/
abbrev State.sinceInRange (s : State) : Prop := 1 ≤ s.since.toNat ∧ s.since.toNat ≤ 2000000

/-- R49(g), sharpened so that every step keeps it: outside Idle `SINCE` is the time since acceptance, so it lies between the
least and the most ticks R246 lets the transaction have taken. -/
abbrev State.sinceInStep (s : State) : Prop :=
  s.st ≠ .idle →
    s.st.earliest s.biti.toNat + s.tmr.toNat ≤ s.since.toNat ∧ s.since.toNat ≤ s.st.latest s.biti.toNat + s.tmr.toNat

/-- R49(f): with `VALID` = 1, `RAW` passes the checksum and `TEMP`, `HUM` are its conversion under `FAMILY`. -/
abbrev State.resultsCoherent (s : State) : Prop :=
  s.valid = true →
    checksumOk s.raw = true ∧ s.temp.toInt = convertTemp s.family s.raw ∧ s.hum.toNat = convertHum s.family s.raw

/-- The invariant of R49. -/
abbrev State.Inv (s : State) : Prop :=
  s.tmrInRange ∧ s.bitiInRange ∧ s.sinceInRange ∧ s.sinceInStep ∧ s.resultsCoherent

end Sys2Proof.Machine
end

