-- ==== Sys2Proof/Certificates/Slice0/Obligations.lean ====
section
/-! DEFINITION. The statements for the provers, in the order of the spec's files. `s.onlyTicks r` is `s` after a tick that
writes no register but `SINCE`'s default and drives the response port with `r` (Safety.lean). -/

open Sys2Proof Sys2Proof.Machine

/-! ## Encoding -/

/-- R88: decoding the word of a command gives the command, also through the opcode table's numbering of bits. -/
def Obligations.DecodeEncodeAgree : Prop :=
  ∀ i : Instr, decode (encode i) = .instr i ∧ decodeTableWord 8 (encode i).toNat = some i

/-- R88: a word selects an instruction exactly when it is one of the six; with the mnemonic each is written with. -/
def Obligations.WordSelectsCommand : Prop :=
  ∀ (w : Byte) (i : Instr), decode w = .instr i ↔
    (w, i.mnemonic) ∈
      [(0x10#8, "READ"), (0x20#8, "GETT.C"), (0x21#8, "GETT.F"), (0x22#8, "GETT.K"), (0x30#8, "GETH"), (0x40#8, "GETRAW")]

/-- A sanity statement: words written out from R87 and R88 decode to what they stand for. -/
def Obligations.WrittenOutWordsDecode : Prop :=
  decode 0b00010000#8 = .instr .read ∧ decode 0b00100001#8 = .instr .gettF ∧ decode 0b00110000#8 = .instr .geth ∧
    decode 0b01000000#8 = .instr .getraw ∧ decode 0b00100011#8 = .reserved .unitAbove ∧
    decode 0b00010001#8 = .reserved .argNonzero

/-- R92, R186, R208: the reserved words are those of R92's four classes, the words other than the six of R88, and consuming
one answers BadCommand and writes no register but `SINCE`'s default. -/
def Obligations.ReservedWordsAnswerBadCommand : Prop :=
  (∀ w : Byte,
    (w.toNat / 16 = 0 ∨ 5 ≤ w.toNat / 16 ∨ (w.toNat / 16 = 2 ∧ 3 ≤ w.toNat % 16) ∨
        ((w.toNat / 16 = 1 ∨ w.toNat / 16 = 3 ∨ w.toNat / 16 = 4) ∧ w.toNat % 16 ≠ 0)) ↔
      w ∉ [0x10#8, 0x20#8, 0x21#8, 0x22#8, 0x30#8, 0x40#8]) ∧
  ∀ s : State, s.now.rst = false → s.st = .idle → s.now.cmdValid = true →
    s.now.cmd ∉ [0x10#8, 0x20#8, 0x21#8, 0x22#8, 0x30#8, 0x40#8] →
    step s = .next (s.onlyTicks ⟨true, 15, s.valid, 0⟩)

/-- R63, R129: bits of a frame sent in wire order as widths on the right side of the threshold pack back into that frame. -/
def Obligations.PulsesPackIntoTheSentFrame : Prop :=
  ∀ (f : Frame) (pt : Vector Byte 40), (∀ i : Fin 40, 38 ≤ pt[i].toNat ↔ f.word.getLsbD (39 - i.val) = true) →
    assembleFrame pt = f

/-! ## One step and the commands -/

/-- R111, R187: in Idle, without reset, a valid command that decodes is run: the step is `exec` of it; without a valid command
the tick writes no register but `SINCE`'s default. -/
def Obligations.StepRunsTheDecodedCommand : Prop :=
  ∀ s : State, s.now.rst = false → s.st = .idle →
    (∀ i, s.now.cmdValid = true → decode s.now.cmd = .instr i → step s = exec i s) ∧
    (s.now.cmdValid = false → step s = .next (s.onlyTicks ⟨false, 0, false, 0⟩))

/-- The word `withFetchWord` places is what the very next step runs (log 10). -/
def Obligations.FetchedWordRunsNext : Prop :=
  ∀ (s : State) (i : Instr), step (s.withFetchWord 8 (encode i).toNat) = exec i (s.withFetchWord 8 (encode i).toNat)

/-- R180: a READ that is not rate-limited starts a transaction: `SINCE <- 1`, `ST <- AwaitIdle`, `TMR <- 0`, no response, and
nothing else. -/
def Obligations.AcceptedReadStartsTransaction : Prop :=
  ∀ s : State, 2000000 ≤ s.since.toNat →
    exec .read s = .next { s.onlyTicks ⟨false, 0, false, 0⟩ with st := .awaitIdle, tmr := 0, since := 1 }

/-- R180, R201: a READ in the cooldown answers RateLimited (1) with data 0 and writes no register but `SINCE`'s default. -/
def Obligations.ReadInCooldownIsRateLimited : Prop :=
  ∀ s : State, s.since.toNat < 2000000 → exec .read s = .next (s.onlyTicks ⟨true, 1, s.valid, 0⟩)

/-- R181 to R183: GETT.C, GETT.F and GETT.K answer 0 with `rsp_dv` = `VALID` and the temperature in hundredths of the unit,
sign-extended to 40 bits, and write no register but `SINCE`'s default. -/
def Obligations.TemperatureQueriesAnswer : Prop :=
  ∀ s : State,
    exec .gettC s = .next (s.onlyTicks ⟨true, 0, s.valid, BitVec.ofInt 40 (10 * s.temp.toInt)⟩) ∧
    exec .gettF s = .next (s.onlyTicks ⟨true, 0, s.valid, BitVec.ofInt 40 (18 * s.temp.toInt + 3200)⟩) ∧
    exec .gettK s = .next (s.onlyTicks ⟨true, 0, s.valid, BitVec.ofInt 40 (10 * s.temp.toInt + 27315)⟩)

/-- R184, R185, R64: GETH answers `HUM` zero-extended; GETRAW answers the five bytes of `RAW`, byte 0 in `rsp_data[39:32]`;
both with `rsp_dv` = `VALID`, writing no register but `SINCE`'s default. -/
def Obligations.HumidityAndRawQueriesAnswer : Prop :=
  ∀ s : State,
    (∃ d : BitVec 40, exec .geth s = .next (s.onlyTicks ⟨true, 0, s.valid, d⟩) ∧ d.toNat = s.hum.toNat) ∧
    (∃ d : BitVec 40, exec .getraw s = .next (s.onlyTicks ⟨true, 0, s.valid, d⟩) ∧
      d.extractLsb' 32 8 = s.raw.humidityHigh ∧ d.extractLsb' 24 8 = s.raw.humidityLow ∧
      d.extractLsb' 16 8 = s.raw.temperatureHigh ∧ d.extractLsb' 8 8 = s.raw.temperatureLow ∧
      d.extractLsb' 0 8 = s.raw.checksum)

/-- R166 to R169: whatever `TEMP` holds, the three answers read back as signed words are exactly the unit conversions, and
each is below 2^20 in magnitude. -/
def Obligations.TemperatureAnswersAreExact : Prop :=
  ∀ (s t : State),
    (exec .gettC s = .next t → t.rsp.data.toInt = 10 * s.temp.toInt ∧ |t.rsp.data.toInt| < 2 ^ 20) ∧
    (exec .gettF s = .next t → t.rsp.data.toInt = 18 * s.temp.toInt + 3200 ∧ |t.rsp.data.toInt| < 2 ^ 20) ∧
    (exec .gettK s = .next t → t.rsp.data.toInt = 10 * s.temp.toInt + 27315 ∧ |t.rsp.data.toInt| < 2 ^ 20)

/-- R67: reading is idempotent: a query asked again gets the same response, after any queries in between, and after any run
of ticks in which there is no reset and no successful read: quiet ticks, rate-limited READs, reserved words, queries and
failed transactions. -/
def Obligations.RepeatedQueriesAgree : Prop :=
  ∀ (i : Instr) (s t u : State), i ≠ .read → exec i s = .next t →
    (∀ between : List Instr, .read ∉ between →
      (exec i (between.foldl (fun x q => match exec q x with | .next y => y | .fault _ => x | .refused _ => x) t)
        = .next u) →
      u.rsp = t.rsp) ∧
    (∀ (k : Nat) (v : State), t.noResetFor k → (∀ j < k, ∀ w, runTicks j t = .next w → ¬ w.commits) →
      runTicks k t = .next v → exec i v = .next u → u.rsp = t.rsp)

/-! ## Ports -/

/-- R41, R187, R230: a command that is not consumed has no effect: outside Idle the command port is ignored, in a tick with
`cmd_valid` = 0 `cmd` is ignored, and in a reset tick the command port is ignored in every state, Idle included. -/
def Obligations.UnconsumedCommandsAreIgnored : Prop :=
  ∀ (s : State) (i : Inputs) (rest : List Inputs) (v : Bool) (w : Byte),
    (s.st ≠ .idle →
      step { s with inputs := { i with cmdValid := v, cmd := w } :: rest } = step { s with inputs := i :: rest }) ∧
    (i.cmdValid = false →
      step { s with inputs := { i with cmd := w } :: rest } = step { s with inputs := i :: rest }) ∧
    (i.rst = true →
      step { s with inputs := { i with cmdValid := v, cmd := w } :: rest } = step { s with inputs := i :: rest })

/-- R40: in Idle, StartLow, StartHigh, Decode and Check `sda_in` is ignored. -/
def Obligations.LineIsIgnoredOutsideWaits : Prop :=
  ∀ (s : State) (i : Inputs) (rest : List Inputs) (l : Level),
    s.st ∈ [St.idle, .startLow, .startHigh, .decode, .check] →
      step { s with inputs := { i with sdaIn := l } :: rest } = step { s with inputs := i :: rest }

/-- R42: `cfg_family` is ignored unless `rst` = 1. -/
def Obligations.StrapIsIgnoredOutsideReset : Prop :=
  ∀ (s : State) (i : Inputs) (rest : List Inputs) (v : Bool), i.rst = false →
    step { s with inputs := { i with cfgFamily := v } :: rest } = step { s with inputs := i :: rest }

/-- R43 to R46: the four outputs as functions of the state register; the line is never driven in the critical region. -/
def Obligations.OutputsFollowTheStateRegister : Prop :=
  ∀ x : St,
    (x.sdaOe = true ↔ x = .startLow ∨ x = .startHigh) ∧ (x.sdaOut = .low ↔ x = .startLow) ∧
    (x.critO = true ↔
      x = .awaitAck ∨ x = .ackLow ∨ x = .ackHigh ∨ x = .bitSync ∨ x = .bitRise ∨ x = .bitHigh) ∧
    (x.cmdReady = true ↔ x = .idle) ∧ (x.sdaOe = true → x.critO = false)

/-- R47: after every step the response port holds a code of R91 or nothing: without a response all four signals are 0, with
one the code is 0 to 7 or 15 and `rsp_dv` is `VALID'`. -/
def Obligations.ResponsePortFollowsItsRule : Prop :=
  ∀ s t : State, step s = .next t →
    (t.rsp.valid = false → t.rsp = ⟨false, 0, false, 0⟩) ∧
    (t.rsp.valid = true → (t.rsp.status.toNat ≤ 7 ∨ t.rsp.status = 15) ∧ t.rsp.dv = t.valid)

/-! ## Reset -/

/-- R230: a tick with `rst` = 1 runs no rule, consumes no command and gives no response, in any state; every register the
spec gives a reset value takes it, and `FAMILY` takes `cfg_family`. -/
def Obligations.ResetTickTakesResetValues : Prop :=
  ∀ s : State, s.now.rst = true →
    ∃ t, step s = .next t ∧ t.st = .idle ∧ t.tmr = 0 ∧ t.biti = 0 ∧ t.valid = false ∧ t.since.toNat = 2000000 ∧
      t.family = (if s.now.cfgFamily then .dht22 else .dht11) ∧ t.rsp = ⟨false, 0, false, 0⟩ ∧
      t.inputs = s.inputs.tail

/-- R48 for the state after reset: the values the spec gives (the other registers hold free values, logs 3 and 4) and the
outputs that follow. -/
def Obligations.ResetStateHoldsTheSpecifiedValues : Prop :=
  State.reset.st = .idle ∧ State.reset.tmr = 0 ∧ State.reset.biti = 0 ∧ State.reset.valid = false ∧
    State.reset.since.toNat = 2000000 ∧ State.reset.rsp = ⟨false, 0, false, 0⟩ ∧ State.reset.st.sdaOe = false ∧
    State.reset.st.sdaOut = .high ∧ State.reset.st.critO = false ∧ State.reset.st.cmdReady = true

/-! ## The states of a transaction -/

/-- R113 with R115, R118, R119, R122, R123: one tick of each pure waiting state: the level first, then the deadline
strictly, then counting; the whole next state in each case. -/
def Obligations.WaitingStatesFollowTheTimedWait : Prop :=
  ∀ row ∈ pureWaits, ∀ s : State, s.now.rst = false → s.st = row.state →
    (s.now.sdaIn = row.level →
      step s = .next { s.onlyTicks ⟨false, 0, false, 0⟩ with st := row.next, tmr := 0 }) ∧
    (s.now.sdaIn ≠ row.level → row.limit < s.tmr.toNat →
      step s = .next { s.onlyTicks ⟨true, row.code, s.valid, 0⟩ with st := .idle, tmr := 0 }) ∧
    (s.now.sdaIn ≠ row.level → s.tmr.toNat ≤ row.limit →
      step s = .next { s.onlyTicks ⟨false, 0, false, 0⟩ with tmr := s.tmr + 1 })

/-- R120: AckHigh is the same wait with `BITI <- 0` on success. -/
def Obligations.AckHighClearsTheBitIndex : Prop :=
  ∀ s : State, s.now.rst = false → s.st = .ackHigh →
    (s.now.sdaIn = .high →
      step s = .next { s.onlyTicks ⟨false, 0, false, 0⟩ with st := .bitSync, tmr := 0, biti := 0 }) ∧
    (s.now.sdaIn = .low → 100 < s.tmr.toNat →
      step s = .next { s.onlyTicks ⟨true, 4, s.valid, 0⟩ with st := .idle, tmr := 0 }) ∧
    (s.now.sdaIn = .low → s.tmr.toNat ≤ 100 →
      step s = .next { s.onlyTicks ⟨false, 0, false, 0⟩ with tmr := s.tmr + 1 })

/-- R116, R117: the two start states hold for their number of ticks whatever the line shows. -/
def Obligations.StartStatesHold : Prop :=
  ∀ s : State, s.now.rst = false →
    (s.st = .startLow → s.tmr.toNat = 17999 →
      step s = .next { s.onlyTicks ⟨false, 0, false, 0⟩ with st := .startHigh, tmr := 0 }) ∧
    (s.st = .startLow → s.tmr.toNat ≠ 17999 →
      step s = .next { s.onlyTicks ⟨false, 0, false, 0⟩ with tmr := s.tmr + 1 }) ∧
    (s.st = .startHigh → s.tmr = 0 →
      step s = .next { s.onlyTicks ⟨false, 0, false, 0⟩ with st := .awaitAck, tmr := 0 })

/-- R126: BitHigh at a Low sample writes `PT[BITI]` alone of `PT`, with the low byte of `TMR`, and goes to Decode after bit 39
and to the next bit's BitSync before; at a High sample it raises DataTimeout past the limit and counts up to it. The
premise on `BITI` is R49(b). -/
def Obligations.BitHighCapturesThePulse : Prop :=
  ∀ s : State, s.now.rst = false → s.st = .bitHigh → s.bitiInRange →
    (s.now.sdaIn = .low →
      ∃ t, step s = .next t ∧
        (∀ j < 40, t.pt[j]? = if j = s.biti.toNat then some (BitVec.ofNat 8 s.tmr.toNat) else s.pt[j]?) ∧
        (s.biti.toNat = 39 →
          t = { s.onlyTicks ⟨false, 0, false, 0⟩ with st := .decode, tmr := 0, pt := t.pt }) ∧
        (s.biti.toNat < 39 →
          t = { s.onlyTicks ⟨false, 0, false, 0⟩ with st := .bitSync, tmr := 0, pt := t.pt, biti := s.biti + 1 })) ∧
    (s.now.sdaIn = .high → 100 < s.tmr.toNat →
      step s = .next { s.onlyTicks ⟨true, 6, s.valid, 0⟩ with st := .idle, tmr := 0 }) ∧
    (s.now.sdaIn = .high → s.tmr.toNat ≤ 100 →
      step s = .next { s.onlyTicks ⟨false, 0, false, 0⟩ with tmr := s.tmr + 1 })

/-- R128, R129: Decode turns pulse `i` into bit `39 - i` of the frame word, 1 iff its width is at least 38, and writes nothing
but `FRAME`, `ST` and `TMR`. -/
def Obligations.DecodePacksThresholdedBits : Prop :=
  ∀ s : State, s.now.rst = false → s.st = .decode →
    ∃ f : Frame, step s = .next { s.onlyTicks ⟨false, 0, false, 0⟩ with st := .check, tmr := 0, frame := f } ∧
      ∀ i : Fin 40, f.word.getLsbD (39 - i.val) = decide (38 ≤ s.pt[i].toNat)

/-- R189: Check commits `RAW`, `TEMP`, `HUM` and `VALID` and answers Success iff the checksum byte is the sum of the data
bytes modulo 256; otherwise it answers ChecksumMismatch and writes nothing but `ST` and `TMR`. -/
def Obligations.CheckCommitsOrRejects : Prop :=
  ∀ s : State, s.now.rst = false → s.st = .check →
    ((s.frame.humidityHigh.toNat + s.frame.humidityLow.toNat + s.frame.temperatureHigh.toNat
          + s.frame.temperatureLow.toNat) % 256 = s.frame.checksum.toNat →
      ∃ (temp hum : BitVec 16),
        step s = .next
          { s.onlyTicks ⟨true, 0, true, 0⟩ with
            st := .idle, tmr := 0, raw := s.frame, temp := temp, hum := hum, valid := true } ∧
        temp.toInt = convertTemp s.family s.frame ∧ hum.toNat = convertHum s.family s.frame) ∧
    ((s.frame.humidityHigh.toNat + s.frame.humidityLow.toNat + s.frame.temperatureHigh.toNat
          + s.frame.temperatureLow.toNat) % 256 ≠ s.frame.checksum.toNat →
      step s = .next { s.onlyTicks ⟨true, 7, s.valid, 0⟩ with st := .idle, tmr := 0 })

/-- R160 to R164: what a committed frame means, in numbers: DHT11 whole units from bytes 2 and 0, DHT22 tenths with a sign and
a 15-bit magnitude. -/
def Obligations.CommittedReadingIsTheConversion : Prop :=
  ∀ s t : State, s.now.rst = false → s.st = .check → checksumOk s.frame = true → step s = .next t →
    (s.family = .dht11 →
      t.temp.toInt = 10 * (s.frame.temperatureHigh.toNat : Int) ∧ t.hum.toNat = 10 * s.frame.humidityHigh.toNat) ∧
    (s.family = .dht22 →
      t.hum.toNat = 256 * s.frame.humidityHigh.toNat + s.frame.humidityLow.toNat ∧
      (s.frame.temperatureHigh.toNat < 128 →
        t.temp.toInt = 256 * (s.frame.temperatureHigh.toNat : Int) + s.frame.temperatureLow.toNat) ∧
      (128 ≤ s.frame.temperatureHigh.toNat →
        t.temp.toInt = -(256 * ((s.frame.temperatureHigh.toNat : Int) - 128) + s.frame.temperatureLow.toNat)))

/-- R151(a): for all four data bytes exactly one checksum byte makes the frame valid. -/
def Obligations.ExactlyOneChecksumByteIsValid : Prop :=
  ∀ b0 b1 b2 b3 : Byte, ∃ c : Byte, checksumOk ⟨b0, b1, b2, b3, c⟩ = true ∧
    ∀ d : Byte, checksumOk ⟨b0, b1, b2, b3, d⟩ = true → d = c

/-- R151(b): changing exactly one byte of a valid frame makes it invalid. -/
def Obligations.OneWrongByteIsDetected : Prop :=
  ∀ (f : Frame) (b : Byte), checksumOk f = true →
    (b ≠ f.humidityHigh → checksumOk { f with humidityHigh := b } = false) ∧
    (b ≠ f.humidityLow → checksumOk { f with humidityLow := b } = false) ∧
    (b ≠ f.temperatureHigh → checksumOk { f with temperatureHigh := b } = false) ∧
    (b ≠ f.temperatureLow → checksumOk { f with temperatureLow := b } = false) ∧
    (b ≠ f.checksum → checksumOk { f with checksum := b } = false)

/-! ## Rules of the whole machine -/

/-- R7: no step faults or refuses; the block never halts. -/
def Obligations.EveryStepAnswersANextState : Prop := ∀ s : State, ∃ t, step s = .next t

/-- R23: the state register follows the fixed order of states. -/
def Obligations.StateRegisterFollowsTheFixedOrder : Prop :=
  ∀ s t : State, s.now.rst = false → step s = .next t → t.st ∈ s.st.successors

/-- R222: which state raises which error, and under exactly which condition. -/
def Obligations.ErrorsMatchTheTable : Prop :=
  ∀ s t : State, s.now.rst = false → step s = .next t →
    (t.rsp.valid = true ∧ t.rsp.status = 1 ↔
      s.st = .idle ∧ s.now.cmdValid = true ∧ s.now.cmd = 0x10 ∧ s.since.toNat < 2000000) ∧
    (t.rsp.valid = true ∧ t.rsp.status = 15 ↔
      s.st = .idle ∧ s.now.cmdValid = true ∧ s.now.cmd ∉ [0x10#8, 0x20#8, 0x21#8, 0x22#8, 0x30#8, 0x40#8]) ∧
    (t.rsp.valid = true ∧ t.rsp.status = 2 ↔ s.st = .awaitIdle ∧ s.now.sdaIn = .low ∧ 250 < s.tmr.toNat) ∧
    (t.rsp.valid = true ∧ t.rsp.status = 3 ↔ s.st = .awaitAck ∧ s.now.sdaIn = .low ∧ 60 < s.tmr.toNat) ∧
    (t.rsp.valid = true ∧ t.rsp.status = 4 ↔
      (s.st = .ackLow ∧ s.now.sdaIn = .high ∧ 100 < s.tmr.toNat) ∨
      (s.st = .ackHigh ∧ s.now.sdaIn = .low ∧ 100 < s.tmr.toNat)) ∧
    (t.rsp.valid = true ∧ t.rsp.status = 5 ↔ s.st = .bitSync ∧ s.now.sdaIn = .high ∧ 100 < s.tmr.toNat) ∧
    (t.rsp.valid = true ∧ t.rsp.status = 6 ↔
      (s.st = .bitRise ∧ s.now.sdaIn = .low ∧ 100 < s.tmr.toNat) ∨
      (s.st = .bitHigh ∧ s.now.sdaIn = .high ∧ 100 < s.tmr.toNat)) ∧
    (t.rsp.valid = true ∧ t.rsp.status = 7 ↔ s.st = .check ∧ checksumOk s.frame = false)

/-- R213: the error exit (codes 2 to 7) answers with data 0 and `rsp_dv` = `VALID`, returns to Idle with `TMR` = 0, and
leaves every other register as it was but for `SINCE`'s default. -/
def Obligations.ErrorExitWritesStateAndTimerOnly : Prop :=
  ∀ s t : State, s.now.rst = false → step s = .next t → t.rsp.valid = true →
    t.rsp.status ∈ [2#4, 3#4, 4#4, 5#4, 6#4, 7#4] →
    t = { s.onlyTicks ⟨true, t.rsp.status, s.valid, 0⟩ with st := .idle, tmr := 0 }

/-- R32, R191: `RAW`, `TEMP`, `HUM` and `VALID` change together or not at all, and only in the Check tick of a transaction that
ends in Success. -/
def Obligations.ResultsChangeTogetherOnSuccessOnly : Prop :=
  ∀ s t : State, s.now.rst = false → step s = .next t →
    (t.raw = s.raw ∧ t.temp = s.temp ∧ t.hum = s.hum ∧ t.valid = s.valid) ∨
    (s.st = .check ∧ checksumOk s.frame = true ∧ t.rsp = ⟨true, 0, true, 0⟩ ∧ t.raw = s.frame ∧
      t.temp.toInt = convertTemp s.family s.frame ∧ t.hum.toNat = convertHum s.family s.frame ∧ t.valid = true)

/-- R33: outside reset `PT` is written by BitHigh alone, `FRAME` by Decode alone, `BITI` by AckHigh and BitHigh alone, and
`FAMILY` by nothing (R35). -/
def Obligations.EachRegisterHasItsWriters : Prop :=
  ∀ s t : State, s.now.rst = false → step s = .next t →
    (s.st ≠ .bitHigh → t.pt = s.pt) ∧ (s.st ≠ .decode → t.frame = s.frame) ∧
    (s.st ≠ .ackHigh → s.st ≠ .bitHigh → t.biti = s.biti) ∧ t.family = s.family

/-- R34: nothing but reset clears `VALID`. -/
def Obligations.OnlyResetClearsValid : Prop :=
  ∀ s t : State, step s = .next t → s.valid = true → t.valid = false → s.now.rst = true

/-- R190: every tick without reset, in every state, counts `SINCE` up to 2000000, except the tick that accepts a READ, which
writes 1. -/
def Obligations.SinceCountsOrRestarts : Prop :=
  ∀ s t : State, s.now.rst = false → step s = .next t →
    (s.accepts → t.since.toNat = 1) ∧ (¬ s.accepts → t.since.toNat = min (s.since.toNat + 1) 2000000)

/-- R35: `FAMILY` influences nothing but the Check tick. -/
def Obligations.FamilyMattersInCheckOnly : Prop :=
  ∀ (s t : State) (x : Family), s.now.rst = false → s.st ≠ .check → step s = .next t →
    step { s with family := x } = .next { t with family := x }

/-! ## The invariant -/

/-- The reset state meets the invariant of R49. -/
def Obligations.ResetMeetsTheInvariant : Prop := State.reset.Inv

/-- R49: from every state that meets the invariant, reached or not, a step gives a state that meets it. -/
def Obligations.StepKeepsTheInvariant : Prop := ∀ s t : State, s.Inv → step s = .next t → t.Inv

/-- R245: in a state that meets the invariant, `SINCE` in the tick of a transaction's response lies within the exact bounds:
Check 18127 to 30761, BusBusy 252, NotPresent 18064 to 18315, any 252 to 30761. (SinceMeasuresTheTicksSinceAcceptance says
that `SINCE` is the time since acceptance.) -/
def Obligations.ResponseTimesLieWithinTheirBounds : Prop :=
  ∀ s t : State, s.Inv → s.now.rst = false → step s = .next t → s.st ≠ .idle → t.rsp.valid = true →
    252 ≤ s.since.toNat ∧ s.since.toNat ≤ 30761 ∧
    (s.st = .check → 18127 ≤ s.since.toNat) ∧
    (t.rsp.status = 2 → s.since.toNat = 252) ∧
    (t.rsp.status = 3 → 18064 ≤ s.since.toNat ∧ s.since.toNat ≤ 18315)

/-! ## Whole transactions -/

/-- R188, R245(d): an accepted READ gets exactly one response, 252 to 30761 ticks later, with the block busy at every tick in
between and in Idle after it, whatever the line and the host do short of a reset. -/
def Obligations.EveryAcceptedReadIsAnsweredOnce : Prop :=
  ∀ s : State, s.accepts → s.noResetFor 30762 →
    ∃ r t, 252 ≤ r ∧ r ≤ 30761 ∧ runTicks (r + 1) s = .next t ∧ t.st = .idle ∧ t.tmr = 0 ∧ t.rsp.valid = true ∧
      ∀ j u, 1 ≤ j → j ≤ r → runTicks j s = .next u → u.st ≠ .idle ∧ u.rsp.valid = false

/-- R36, R190: `k` ticks after a READ was accepted, with no reset and no other acceptance since, `SINCE` is min(k, 2000000). -/
def Obligations.SinceMeasuresTheTicksSinceAcceptance : Prop :=
  ∀ (s t : State) (k : Nat), s.accepts → 1 ≤ k → s.noResetFor k →
    (∀ j u, 1 ≤ j → j < k → runTicks j s = .next u → ¬ u.accepts) → runTicks k s = .next t →
    t.since.toNat = min k 2000000

/-- R237: for 1999999 ticks after an accepted READ no READ is accepted, whatever became of the first. -/
def Obligations.AcceptedReadsAreTwoSecondsApart : Prop :=
  ∀ (s u : State) (k : Nat), s.accepts → 1 ≤ k → k < 2000000 → s.noResetFor k → runTicks k s = .next u → ¬ u.accepts

/-- R114: a waiting state entered with `TMR` = 0 samples with `TMR` = 0, 1, 2, ...; it succeeds at the first matching sample if
that is among the first limit + 2, and otherwise raises its error at sample limit + 2. -/
def Obligations.WaitsEndWhereTheySay : Prop :=
  ∀ row ∈ ackHighWait :: pureWaits, ∀ (s : State) (k : Nat), s.st = row.state → s.tmr = 0 → s.noResetFor (k + 1) →
    k ≤ row.limit + 1 → (∀ j < k, (s.inputAt j).sdaIn ≠ row.level) →
    (∀ j ≤ k, 1 ≤ j → ∃ u, runTicks j s = .next u ∧ u.st = row.state ∧ u.tmr.toNat = j ∧ u.rsp.valid = false) ∧
    ((s.inputAt k).sdaIn = row.level →
      ∃ t, runTicks (k + 1) s = .next t ∧ t.st = row.next ∧ t.tmr = 0 ∧ t.rsp.valid = false) ∧
    (k = row.limit + 1 → (s.inputAt k).sdaIn ≠ row.level →
      ∃ t, runTicks (k + 1) s = .next t ∧ t.st = .idle ∧ t.tmr = 0 ∧ t.rsp = ⟨true, row.code, s.valid, 0⟩)

/-- R116, R117: StartLow lasts 18000 ticks and StartHigh one, whatever the line shows: the line is driven for 18001 ticks and
then released into AwaitAck. -/
def Obligations.StartSignalLastsExactly : Prop :=
  ∀ s : State, s.st = .startLow → s.tmr = 0 → s.noResetFor 18001 →
    (∀ j < 18000, ∃ u, runTicks j s = .next u ∧ u.st = .startLow ∧ u.tmr.toNat = j) ∧
    (∃ u, runTicks 18000 s = .next u ∧ u.st = .startHigh ∧ u.tmr = 0 ∧ u.rsp.valid = false) ∧
    (∃ u, runTicks 18001 s = .next u ∧ u.st = .awaitAck ∧ u.tmr = 0 ∧ u.rsp.valid = false)

/-- R127: a bit cell with a Low run of `a` samples and a High run of `m`, both 1 to 102, closed by a Low sample, is captured as
`m - 1`, which is a 1 bit iff `m` is at least 39. -/
def Obligations.BitCellIsCapturedAsItsHighRunLessOne : Prop :=
  ∀ (s : State) (a m : Nat), s.st = .bitSync → s.bitiInRange → 1 ≤ a → a ≤ 102 → 1 ≤ m → m ≤ 102 →
    s.noResetFor (a + m + 1) →
    (∀ j < a, (s.inputAt j).sdaIn = .low) → (∀ j < a + m, a ≤ j → (s.inputAt j).sdaIn = .high) →
    (s.inputAt (a + m)).sdaIn = .low →
    ∃ t, runTicks (a + m + 1) s = .next t ∧ t.tmr = 0 ∧ t.rsp.valid = false ∧
      (∀ j < 40, t.pt[j]? = if j = s.biti.toNat then some (BitVec.ofNat 8 (m - 1)) else s.pt[j]?) ∧
      (pulseBit t.pt s.biti.toNat = if 39 ≤ m then 1 else 0) ∧
      (s.biti.toNat = 39 → t.st = .decode ∧ t.biti = s.biti) ∧
      (s.biti.toNat < 39 → t.st = .bitSync ∧ t.biti.toNat = s.biti.toNat + 1)

/-- R98, R245, R189: the model sensor sending frame `f` on a line that was High at the idle check makes an accepted READ answer
in tick 18193 + 2000 + 27 z + 70 u + 2 (z zeros and u ones in `f`): Success with the converted reading committed if the
checksum holds, else ChecksumMismatch with the old results kept. -/
def Obligations.SensorFrameIsDelivered : Prop :=
  ∀ (s : State) (f : Frame) (pre wave rest : List Inputs), s.accepts → s.inputs = pre ++ wave ++ rest →
    pre.length = 18003 → (∀ i ∈ pre ++ wave, i.rst = false) → pre[1]?.map Inputs.sdaIn = some .high →
    wave.map Inputs.sdaIn = waveLevels (sensor f) →
    ∃ t, runTicks (18193 + 50 * 40 + 27 * (frameBits f).count false + 70 * (frameBits f).count true + 2 + 1) s
        = .next t ∧ t.st = .idle ∧ t.frame = f ∧ t.family = s.family ∧
      (checksumOk f = true → t.rsp = ⟨true, 0, true, 0⟩ ∧ t.raw = f ∧ t.valid = true ∧
        t.temp.toInt = convertTemp s.family f ∧ t.hum.toNat = convertHum s.family f) ∧
      (checksumOk f = false → t.rsp = ⟨true, 7, s.valid, 0⟩ ∧ t.raw = s.raw ∧ t.valid = s.valid ∧
        t.temp = s.temp ∧ t.hum = s.hum)

/-- R204, 90_conflicts.md C6: with no sensor on a pulled-up line (always High) an accepted READ answers BadStart 18105 ticks
later. -/
def Obligations.AbsentSensorIsBadStart : Prop :=
  ∀ s : State, s.accepts → s.noResetFor 18106 → (∀ j ≤ 18105, 1 ≤ j → (s.inputAt j).sdaIn = .high) →
    ∃ t, runTicks 18106 s = .next t ∧ t.st = .idle ∧ t.rsp = ⟨true, 4, s.valid, 0⟩ ∧ t.raw = s.raw ∧ t.temp = s.temp ∧
      t.hum = s.hum ∧ t.valid = s.valid

/-- R27, R28, U7: what `PT` and `FRAME` hold in Idle (their unspecified reset values, or a failed read's leftovers) never
shows: two runs that differ in nothing else agree on every port and every register the host can read, for ever. After a
reset inside the run `RAW`, `TEMP` and `HUM` agree only because both runs draw the same free value: the model's own choice
(logs 2 and 3). -/
def Obligations.StaleWorkRegistersNeverShow : Prop :=
  ∀ (k : Nat) (s t : State) (p : Vector Byte 40) (f : Frame), s.st = .idle → runTicks k s = .next t →
    ∃ u, runTicks k { s with pt := p, frame := f } = .next u ∧ u.st = t.st ∧ u.rsp = t.rsp ∧ u.raw = t.raw ∧
      u.temp = t.temp ∧ u.hum = t.hum ∧ u.valid = t.valid ∧ u.since = t.since ∧ u.family = t.family

/-- R231, U1: while `VALID` = 0 the unspecified values of `RAW`, `TEMP` and `HUM` show in the data of a query alone: two runs
that differ in nothing else agree on `ST`, on `VALID`, on the results once `VALID` is 1, on a response port that is silent,
carries an error or carries `rsp_dv` = 1 whole, and on what is left, a status 0 with `rsp_dv` = 0, up to its data. (Status 0
with `rsp_dv` = 0 is a query's answer: CheckCommitsOrRejects gives a Success `rsp_dv` = 1.) After a reset inside the run
both runs draw the same free value (logs 2 and 3). -/
def Obligations.UnspecifiedResultsShowOnlyWithoutDataValid : Prop :=
  ∀ (k : Nat) (s t : State) (r : Frame) (x h : BitVec 16), s.valid = false → runTicks (k + 1) s = .next t →
    ∃ u, runTicks (k + 1) { s with raw := r, temp := x, hum := h } = .next u ∧ u.st = t.st ∧ u.valid = t.valid ∧
      u.rsp.valid = t.rsp.valid ∧ u.rsp.status = t.rsp.status ∧ u.rsp.dv = t.rsp.dv ∧
      (t.rsp.dv = true → u.rsp = t.rsp) ∧
      (t.rsp.valid = false ∨ t.rsp.status ≠ 0 → u.rsp = t.rsp) ∧
      (t.valid = true → u.raw = t.raw ∧ u.temp = t.temp ∧ u.hum = t.hum)
end

