-- ==== Sys2Proof/Laws/State.lean ====
section
/-! SUPPORT. One lemma per field per update of State, each true by rfl, and the values of the parameters; later proofs
never unfold an update. -/

namespace Sys2Proof.Machine

section elapse

variable (s : State)

@[simp] theorem elapse_st : (s.elapse).st = s.st := rfl
@[simp] theorem elapse_tmr : (s.elapse).tmr = s.tmr := rfl
@[simp] theorem elapse_biti : (s.elapse).biti = s.biti := rfl
@[simp] theorem elapse_pt : (s.elapse).pt = s.pt := rfl
@[simp] theorem elapse_frame : (s.elapse).frame = s.frame := rfl
@[simp] theorem elapse_raw : (s.elapse).raw = s.raw := rfl
@[simp] theorem elapse_temp : (s.elapse).temp = s.temp := rfl
@[simp] theorem elapse_hum : (s.elapse).hum = s.hum := rfl
@[simp] theorem elapse_valid : (s.elapse).valid = s.valid := rfl
@[simp] theorem elapse_family : (s.elapse).family = s.family := rfl
@[simp] theorem elapse_since : (s.elapse).since = sinceNext s.since := rfl
@[simp] theorem elapse_rsp : (s.elapse).rsp = Rsp.silent := rfl
@[simp] theorem elapse_inputs : (s.elapse).inputs = s.inputs.tail := rfl
@[simp] theorem elapse_draw : (s.elapse).draw = s.draw + 1 := rfl

end elapse

section goto

variable (s : State) (x : St)

@[simp] theorem goto_st : (s.goto x).st = x := rfl
@[simp] theorem goto_tmr : (s.goto x).tmr = 0 := rfl
@[simp] theorem goto_biti : (s.goto x).biti = s.biti := rfl
@[simp] theorem goto_pt : (s.goto x).pt = s.pt := rfl
@[simp] theorem goto_frame : (s.goto x).frame = s.frame := rfl
@[simp] theorem goto_raw : (s.goto x).raw = s.raw := rfl
@[simp] theorem goto_temp : (s.goto x).temp = s.temp := rfl
@[simp] theorem goto_hum : (s.goto x).hum = s.hum := rfl
@[simp] theorem goto_valid : (s.goto x).valid = s.valid := rfl
@[simp] theorem goto_family : (s.goto x).family = s.family := rfl
@[simp] theorem goto_since : (s.goto x).since = s.since := rfl
@[simp] theorem goto_rsp : (s.goto x).rsp = s.rsp := rfl
@[simp] theorem goto_inputs : (s.goto x).inputs = s.inputs := rfl
@[simp] theorem goto_draw : (s.goto x).draw = s.draw := rfl

end goto

section count

variable (s : State)

@[simp] theorem count_st : (s.count).st = s.st := rfl
@[simp] theorem count_tmr : (s.count).tmr = s.tmr + 1 := rfl
@[simp] theorem count_biti : (s.count).biti = s.biti := rfl
@[simp] theorem count_pt : (s.count).pt = s.pt := rfl
@[simp] theorem count_frame : (s.count).frame = s.frame := rfl
@[simp] theorem count_raw : (s.count).raw = s.raw := rfl
@[simp] theorem count_temp : (s.count).temp = s.temp := rfl
@[simp] theorem count_hum : (s.count).hum = s.hum := rfl
@[simp] theorem count_valid : (s.count).valid = s.valid := rfl
@[simp] theorem count_family : (s.count).family = s.family := rfl
@[simp] theorem count_since : (s.count).since = s.since := rfl
@[simp] theorem count_rsp : (s.count).rsp = s.rsp := rfl
@[simp] theorem count_inputs : (s.count).inputs = s.inputs := rfl
@[simp] theorem count_draw : (s.count).draw = s.draw := rfl

end count

section respond

variable (s : State) (c : Status) (d : BitVec 40)

@[simp] theorem respond_st : (respond c d s).st = s.st := rfl
@[simp] theorem respond_tmr : (respond c d s).tmr = s.tmr := rfl
@[simp] theorem respond_biti : (respond c d s).biti = s.biti := rfl
@[simp] theorem respond_pt : (respond c d s).pt = s.pt := rfl
@[simp] theorem respond_frame : (respond c d s).frame = s.frame := rfl
@[simp] theorem respond_raw : (respond c d s).raw = s.raw := rfl
@[simp] theorem respond_temp : (respond c d s).temp = s.temp := rfl
@[simp] theorem respond_hum : (respond c d s).hum = s.hum := rfl
@[simp] theorem respond_valid : (respond c d s).valid = s.valid := rfl
@[simp] theorem respond_family : (respond c d s).family = s.family := rfl
@[simp] theorem respond_since : (respond c d s).since = s.since := rfl
@[simp] theorem respond_rsp : (respond c d s).rsp = ⟨true, c.code, s.valid, d⟩ := rfl
@[simp] theorem respond_inputs : (respond c d s).inputs = s.inputs := rfl
@[simp] theorem respond_draw : (respond c d s).draw = s.draw := rfl

end respond

section raiseError

variable (s : State) (e : Status)

@[simp] theorem raiseError_st : (raiseError e s).st = .idle := rfl
@[simp] theorem raiseError_tmr : (raiseError e s).tmr = 0 := rfl
@[simp] theorem raiseError_biti : (raiseError e s).biti = s.biti := rfl
@[simp] theorem raiseError_pt : (raiseError e s).pt = s.pt := rfl
@[simp] theorem raiseError_frame : (raiseError e s).frame = s.frame := rfl
@[simp] theorem raiseError_raw : (raiseError e s).raw = s.raw := rfl
@[simp] theorem raiseError_temp : (raiseError e s).temp = s.temp := rfl
@[simp] theorem raiseError_hum : (raiseError e s).hum = s.hum := rfl
@[simp] theorem raiseError_valid : (raiseError e s).valid = s.valid := rfl
@[simp] theorem raiseError_family : (raiseError e s).family = s.family := rfl
@[simp] theorem raiseError_since : (raiseError e s).since = sinceNext s.since := rfl
@[simp] theorem raiseError_rsp : (raiseError e s).rsp = ⟨true, e.code, s.valid, 0⟩ := rfl
@[simp] theorem raiseError_inputs : (raiseError e s).inputs = s.inputs.tail := rfl
@[simp] theorem raiseError_draw : (raiseError e s).draw = s.draw + 1 := rfl

end raiseError

section onlyTicks

variable (s : State) (r : Rsp)

@[simp] theorem onlyTicks_st : (s.onlyTicks r).st = s.st := rfl
@[simp] theorem onlyTicks_tmr : (s.onlyTicks r).tmr = s.tmr := rfl
@[simp] theorem onlyTicks_biti : (s.onlyTicks r).biti = s.biti := rfl
@[simp] theorem onlyTicks_pt : (s.onlyTicks r).pt = s.pt := rfl
@[simp] theorem onlyTicks_frame : (s.onlyTicks r).frame = s.frame := rfl
@[simp] theorem onlyTicks_raw : (s.onlyTicks r).raw = s.raw := rfl
@[simp] theorem onlyTicks_temp : (s.onlyTicks r).temp = s.temp := rfl
@[simp] theorem onlyTicks_hum : (s.onlyTicks r).hum = s.hum := rfl
@[simp] theorem onlyTicks_valid : (s.onlyTicks r).valid = s.valid := rfl
@[simp] theorem onlyTicks_family : (s.onlyTicks r).family = s.family := rfl
@[simp] theorem onlyTicks_since : (s.onlyTicks r).since = BitVec.ofNat 21 (min (s.since.toNat + 1) 2000000) := rfl
@[simp] theorem onlyTicks_rsp : (s.onlyTicks r).rsp = r := rfl
@[simp] theorem onlyTicks_inputs : (s.onlyTicks r).inputs = s.inputs.tail := rfl
@[simp] theorem onlyTicks_draw : (s.onlyTicks r).draw = s.draw + 1 := rfl

end onlyTicks

section withFetchWord

variable (s : State) (n w : Nat)

@[simp] theorem withFetchWord_st : (s.withFetchWord n w).st = .idle := rfl
@[simp] theorem withFetchWord_tmr : (s.withFetchWord n w).tmr = s.tmr := rfl
@[simp] theorem withFetchWord_biti : (s.withFetchWord n w).biti = s.biti := rfl
@[simp] theorem withFetchWord_pt : (s.withFetchWord n w).pt = s.pt := rfl
@[simp] theorem withFetchWord_frame : (s.withFetchWord n w).frame = s.frame := rfl
@[simp] theorem withFetchWord_raw : (s.withFetchWord n w).raw = s.raw := rfl
@[simp] theorem withFetchWord_temp : (s.withFetchWord n w).temp = s.temp := rfl
@[simp] theorem withFetchWord_hum : (s.withFetchWord n w).hum = s.hum := rfl
@[simp] theorem withFetchWord_valid : (s.withFetchWord n w).valid = s.valid := rfl
@[simp] theorem withFetchWord_family : (s.withFetchWord n w).family = s.family := rfl
@[simp] theorem withFetchWord_since : (s.withFetchWord n w).since = s.since := rfl
@[simp] theorem withFetchWord_rsp : (s.withFetchWord n w).rsp = s.rsp := rfl
@[simp] theorem withFetchWord_inputs : (s.withFetchWord n w).inputs = ⟨false, false, .high, true, BitVec.ofNat 8 (w % 2 ^ n)⟩ :: s.inputs := rfl
@[simp] theorem withFetchWord_draw : (s.withFetchWord n w).draw = s.draw := rfl

end withFetchWord

section resetValues

variable (x : Family) (d : Nat) (l : List Inputs)

@[simp] theorem resetValues_st : (State.resetValues x d l).st = .idle := rfl
@[simp] theorem resetValues_tmr : (State.resetValues x d l).tmr = 0 := rfl
@[simp] theorem resetValues_biti : (State.resetValues x d l).biti = 0 := rfl
@[simp] theorem resetValues_pt : (State.resetValues x d l).pt = Vector.ofFn fun i => Config.resetPt d i.val := rfl
@[simp] theorem resetValues_frame : (State.resetValues x d l).frame = Config.resetFrame d := rfl
@[simp] theorem resetValues_raw : (State.resetValues x d l).raw = Config.resetRaw d := rfl
@[simp] theorem resetValues_temp : (State.resetValues x d l).temp = Config.resetTemp d := rfl
@[simp] theorem resetValues_hum : (State.resetValues x d l).hum = Config.resetHum d := rfl
@[simp] theorem resetValues_valid : (State.resetValues x d l).valid = false := rfl
@[simp] theorem resetValues_family : (State.resetValues x d l).family = x := rfl
@[simp] theorem resetValues_since : (State.resetValues x d l).since = 2000000 := rfl
@[simp] theorem resetValues_rsp : (State.resetValues x d l).rsp = Rsp.silent := rfl
@[simp] theorem resetValues_inputs : (State.resetValues x d l).inputs = l := rfl
@[simp] theorem resetValues_draw : (State.resetValues x d l).draw = d := rfl

end resetValues

@[simp] theorem tIdle_value : Config.tIdle = 250 := rfl
@[simp] theorem tStartLow_value : Config.tStartLow = 18000 := rfl
@[simp] theorem tStartHigh_value : Config.tStartHigh = 1 := rfl
@[simp] theorem tAck_value : Config.tAck = 60 := rfl
@[simp] theorem tAckLow_value : Config.tAckLow = 100 := rfl
@[simp] theorem tAckHigh_value : Config.tAckHigh = 100 := rfl
@[simp] theorem tSync_value : Config.tSync = 100 := rfl
@[simp] theorem tData_value : Config.tData = 100 := rfl
@[simp] theorem tBit_value : Config.tBit = 38 := rfl
@[simp] theorem nBits_value : Config.nBits = 40 := rfl
@[simp] theorem tCool_value : Config.tCool = 2000000 := rfl

end Sys2Proof.Machine
end

