-- ==== Sys2Proof/Laws/Ops.lean ====
section
/-! SUPPORT. What each shared operation can do, said once: the inputs, the counter `SINCE`, the timed wait, the hold, the
pulse capture, Check, and a command. -/

namespace Sys2Proof.Machine

/-- The tick's inputs are the first scheduled ones. -/
theorem now_cons (s : State) (i : Inputs) (l : List Inputs) (h : s.inputs = i :: l) : s.now = i := by
  simp [State.now, State.inputAt, h]

/-- With nothing scheduled the tick's inputs are a free value. -/
theorem now_nil (s : State) (h : s.inputs = []) : s.now = Config.freeInputs s.draw := by
  simp [State.now, State.inputAt, h]

/-- The inputs depend on the schedule and the draw alone. -/
theorem inputAt_congr (s t : State) (hi : t.inputs = s.inputs) (hd : t.draw = s.draw) (j : Nat) :
    t.inputAt j = s.inputAt j := by
  simp [State.inputAt, hi, hd]

/-- One tick on, the inputs are those of one tick later. -/
theorem inputAt_later (s t : State) (hi : t.inputs = s.inputs.tail) (hd : t.draw = s.draw + 1) (j : Nat) :
    t.inputAt j = s.inputAt (j + 1) := by
  have hn : s.draw + 1 + j = s.draw + (j + 1) := by omega
  simp [State.inputAt, hi, hd, List.getElem?_tail, hn]

@[simp] theorem inputAt_zero (s : State) : s.inputAt 0 = s.now := rfl

/-- `SINCE` after its default update, as a number. -/
@[simp] theorem sinceNext_toNat (v : BitVec 21) : (sinceNext v).toNat = min (v.toNat + 1) 2000000 := by
  simp only [sinceNext, tCool_value, BitVec.toNat_ofNat]
  omega

/-- The default update of a tick writes no register but `SINCE`. -/
theorem elapse_eq_onlyTicks (s : State) : s.elapse = s.onlyTicks Rsp.silent := rfl

/-- The error exit in one equation (R213). -/
theorem raiseError_eq (e : Status) (s : State) :
    raiseError e s = { s.onlyTicks ⟨true, e.code, s.valid, 0⟩ with st := .idle, tmr := 0 } := rfl

/-- The three ends of a tick of a timed wait (R113). -/
theorem timedWait_cases (l : Level) (limit : Nat) (e : Status) (x : St) (s : State) :
    (s.now.sdaIn = l ∧ timedWait l limit e x s = s.elapse.goto x) ∨
    (s.now.sdaIn ≠ l ∧ limit < s.tmr.toNat ∧ timedWait l limit e x s = raiseError e s) ∨
    (s.now.sdaIn ≠ l ∧ s.tmr.toNat ≤ limit ∧ timedWait l limit e x s = s.elapse.count) := by
  unfold timedWait
  by_cases hl : s.now.sdaIn = l
  · exact .inl ⟨hl, if_pos hl⟩
  · by_cases ht : limit < s.tmr.toNat
    · exact .inr (.inl ⟨hl, ht, by rw [if_neg hl, if_pos ht]⟩)
    · exact .inr (.inr ⟨hl, Nat.le_of_not_lt ht, by rw [if_neg hl, if_neg ht]⟩)

/-- The two ends of a tick of a hold (R116, R117). -/
theorem hold_cases (n : Nat) (x : St) (s : State) :
    (s.tmr.toNat = n - 1 ∧ hold n x s = s.elapse.goto x) ∨ (s.tmr.toNat ≠ n - 1 ∧ hold n x s = s.elapse.count) := by
  unfold hold
  by_cases h : s.tmr.toNat = n - 1
  · exact .inl ⟨h, if_pos h⟩
  · exact .inr ⟨h, if_neg h⟩

/-- The three ends of a tick in AckHigh (R120). -/
theorem tickAckHigh_cases (s : State) :
    (s.now.sdaIn = .high ∧ tickAckHigh s = { s.elapse.goto .bitSync with biti := 0 }) ∨
    (s.now.sdaIn ≠ .high ∧ 100 < s.tmr.toNat ∧ tickAckHigh s = raiseError .badStart s) ∨
    (s.now.sdaIn ≠ .high ∧ s.tmr.toNat ≤ 100 ∧ tickAckHigh s = s.elapse.count) := by
  unfold tickAckHigh
  by_cases hl : s.now.sdaIn = .high
  · exact .inl ⟨hl, if_pos hl⟩
  · rw [if_neg hl]
    rcases timedWait_cases .high Config.tAckHigh .badStart .bitSync s with h | h | h
    · exact absurd h.1 hl
    · exact .inr (.inl h)
    · exact .inr (.inr h)

/-- The two ends of a captured pulse (R126). -/
theorem capturePulse_cases (s : State) :
    (s.biti.toNat = 39 ∧
      capturePulse s =
        { s.elapse.goto .decode with pt := s.pt.setIfInBounds s.biti.toNat (s.tmr.extractLsb' 0 8) }) ∨
    (s.biti.toNat ≠ 39 ∧
      capturePulse s =
        { s.elapse.goto .bitSync with
          pt := s.pt.setIfInBounds s.biti.toNat (s.tmr.extractLsb' 0 8), biti := s.biti + 1 }) := by
  unfold capturePulse
  by_cases h : s.biti.toNat = 39
  · exact .inl ⟨h, if_pos h⟩
  · exact .inr ⟨h, if_neg h⟩

/-- The three ends of a tick in BitHigh (R126). -/
theorem tickBitHigh_cases (s : State) :
    (s.now.sdaIn = .low ∧ tickBitHigh s = capturePulse s) ∨
    (s.now.sdaIn ≠ .low ∧ 100 < s.tmr.toNat ∧ tickBitHigh s = raiseError .dataTimeout s) ∨
    (s.now.sdaIn ≠ .low ∧ s.tmr.toNat ≤ 100 ∧ tickBitHigh s = s.elapse.count) := by
  unfold tickBitHigh
  by_cases hl : s.now.sdaIn = .low
  · exact .inl ⟨hl, if_pos hl⟩
  · by_cases ht : 100 < s.tmr.toNat
    · exact .inr (.inl ⟨hl, ht, by rw [if_neg hl]; exact if_pos ht⟩)
    · exact .inr (.inr ⟨hl, Nat.le_of_not_lt ht, by rw [if_neg hl]; exact if_neg ht⟩)

/-- The two ends of Check (R189). -/
theorem tickCheck_cases (s : State) :
    (checksumOk s.frame = true ∧ tickCheck s = commit s) ∨
    (checksumOk s.frame = false ∧ tickCheck s = raiseError .checksumMismatch s) := by
  unfold tickCheck
  cases h : checksumOk s.frame
  · exact .inr ⟨rfl, rfl⟩
  · exact .inl ⟨rfl, rfl⟩

/-- What a command does: READ turned away, READ accepted, or a query answered (R180 to R185). -/
theorem exec_cases (i : Instr) (s : State) :
    (i = .read ∧ s.since.toNat < 2000000 ∧ exec i s = .next (respond .rateLimited 0 s.elapse)) ∨
    (i = .read ∧ 2000000 ≤ s.since.toNat ∧ exec i s = .next { s.elapse.goto .awaitIdle with since := 1 }) ∨
    (i ≠ .read ∧ ∃ d, exec i s = .next (respond .ok d s.elapse)) := by
  cases i with
  | read =>
    by_cases h : s.since.toNat < 2000000
    · exact .inl ⟨rfl, h, if_pos h⟩
    · exact .inr (.inl ⟨rfl, Nat.le_of_not_lt h, if_neg h⟩)
  | gettC => exact .inr (.inr ⟨nofun, _, rfl⟩)
  | gettF => exact .inr (.inr ⟨nofun, _, rfl⟩)
  | gettK => exact .inr (.inr ⟨nofun, _, rfl⟩)
  | geth => exact .inr (.inr ⟨nofun, _, rfl⟩)
  | getraw => exact .inr (.inr ⟨nofun, _, rfl⟩)

end Sys2Proof.Machine
end

