-- ==== Sys2Proof/Laws/Step.lean ====
section
/-! SUPPORT. What one step is in each state, the one inversion lemma of a step, how a step consumes the inputs, and the
algebra of runs. -/

namespace Sys2Proof.Machine

/-- A tick in a state other than Idle, without reset. -/
def busyTick (s : State) : State :=
  match s.st with
  | .idle => s
  | .awaitIdle => tickAwaitIdle s
  | .startLow => tickStartLow s
  | .startHigh => tickStartHigh s
  | .awaitAck => tickAwaitAck s
  | .ackLow => tickAckLow s
  | .ackHigh => tickAckHigh s
  | .bitSync => tickBitSync s
  | .bitRise => tickBitRise s
  | .bitHigh => tickBitHigh s
  | .decode => tickDecode s
  | .check => tickCheck s

theorem step_reset (s : State) (h : s.now.rst = true) : step s = .next (tickReset s) := by
  simp [step, tickWith, h]

theorem step_idle (s : State) (h : s.now.rst = false) (hs : s.st = .idle) : step s = idleWith exec s := by
  simp [step, tickWith, h, hs]

theorem step_busy (s : State) (h : s.now.rst = false) (hs : s.st ≠ .idle) : step s = .next (busyTick s) := by
  cases hx : s.st <;> simp_all [step, tickWith, busyTick]

/-- What one step can do: a reset tick, an Idle tick in one of its three forms, or the rule of a busy state (R111). -/
theorem step_cases (s t : State) (h : step s = .next t) :
    (s.now.rst = true ∧ t = tickReset s) ∨
    (s.now.rst = false ∧ s.st = .idle ∧ s.now.cmdValid = false ∧ t = tickIdle s) ∨
    (s.now.rst = false ∧ s.st = .idle ∧ s.now.cmdValid = true ∧ (∃ r, decode s.now.cmd = .reserved r) ∧
      t = tickReserved s) ∨
    (s.now.rst = false ∧ s.st = .idle ∧ s.now.cmdValid = true ∧ ∃ i, decode s.now.cmd = .instr i ∧ exec i s = .next t) ∨
    (s.now.rst = false ∧ s.st ≠ .idle ∧ t = busyTick s) := by
  cases hr : s.now.rst with
  | true =>
    rw [step_reset s hr] at h
    exact .inl ⟨rfl, (Host.Outcome.next.inj h).symm⟩
  | false =>
    by_cases hs : s.st = .idle
    · rw [step_idle s hr hs] at h
      unfold idleWith at h
      cases hc : s.now.cmdValid with
      | false =>
        simp only [hc, Bool.false_eq_true, if_false] at h
        exact .inr (.inl ⟨rfl, hs, rfl, (Host.Outcome.next.inj h).symm⟩)
      | true =>
        simp only [hc, if_true] at h
        cases hd : decode s.now.cmd with
        | instr i =>
          simp only [hd] at h
          exact .inr (.inr (.inr (.inl ⟨rfl, hs, rfl, i, rfl, h⟩)))
        | reserved r =>
          simp only [hd] at h
          exact .inr (.inr (.inl ⟨rfl, hs, rfl, ⟨r, rfl⟩, (Host.Outcome.next.inj h).symm⟩))
    · rw [step_busy s hr hs] at h
      exact .inr (.inr (.inr (.inr ⟨rfl, hs, (Host.Outcome.next.inj h).symm⟩)))

/-- A busy tick uses up one tick's inputs. -/
theorem busyTick_inputs (s : State) (hs : s.st ≠ .idle) :
    (busyTick s).inputs = s.inputs.tail ∧ (busyTick s).draw = s.draw + 1 := by
  have wait : ∀ l n e x, (timedWait l n e x s).inputs = s.inputs.tail ∧ (timedWait l n e x s).draw = s.draw + 1 := by
    intro l n e x
    rcases timedWait_cases l n e x s with ⟨_, h⟩ | ⟨_, _, h⟩ | ⟨_, _, h⟩ <;> simp [h]
  have holds : ∀ n x, (hold n x s).inputs = s.inputs.tail ∧ (hold n x s).draw = s.draw + 1 := by
    intro n x
    rcases hold_cases n x s with ⟨_, h⟩ | ⟨_, h⟩ <;> simp [h]
  unfold busyTick
  split
  · contradiction
  · exact wait ..
  · exact holds ..
  · exact holds ..
  · exact wait ..
  · exact wait ..
  · rcases tickAckHigh_cases s with ⟨_, h⟩ | ⟨_, _, h⟩ | ⟨_, _, h⟩ <;> simp [h]
  · exact wait ..
  · exact wait ..
  · rcases tickBitHigh_cases s with ⟨_, h⟩ | ⟨_, _, h⟩ | ⟨_, _, h⟩
    · rcases capturePulse_cases s with ⟨_, h'⟩ | ⟨_, h'⟩ <;> simp [h, h']
    · simp [h]
    · simp [h]
  · simp [tickDecode]
  · rcases tickCheck_cases s with ⟨_, h⟩ | ⟨_, h⟩ <;> simp [h, commit]

/-- Every step uses up exactly one tick's inputs. -/
theorem step_inputs (s t : State) (h : step s = .next t) : t.inputs = s.inputs.tail ∧ t.draw = s.draw + 1 := by
  rcases step_cases s t h with ⟨_, rfl⟩ | ⟨_, _, _, rfl⟩ | ⟨_, _, _, _, rfl⟩ | ⟨_, _, _, i, _, hx⟩ | ⟨_, hs, rfl⟩
  · simp [tickReset]
  · simp [tickIdle]
  · simp [tickReserved]
  · rcases exec_cases i s with ⟨_, _, he⟩ | ⟨_, _, he⟩ | ⟨_, d, he⟩ <;>
      (rw [he] at hx; cases hx; simp)
  · exact busyTick_inputs s hs

theorem step_inputAt (s t : State) (h : step s = .next t) (j : Nat) : t.inputAt j = s.inputAt (j + 1) :=
  inputAt_later s t (step_inputs s t h).1 (step_inputs s t h).2 j

@[simp] theorem runTicks_zero (s : State) : runTicks 0 s = .next s := rfl

theorem runTicks_succ (k : Nat) (s t : State) (h : step s = .next t) : runTicks (k + 1) s = runTicks k t := by
  simp [runTicks, h]

/-- A run of `k + 1` ticks is one tick and a run of `k`. -/
theorem runTicks_succ_inv (k : Nat) (s u : State) (h : runTicks (k + 1) s = .next u) :
    ∃ t, step s = .next t ∧ runTicks k t = .next u := by
  cases hs : step s with
  | next t => exact ⟨t, rfl, by simpa [runTicks, hs] using h⟩
  | fault r => exact nomatch r
  | refused r => simp [runTicks, hs] at h

/-- Runs compose. -/
theorem runTicks_add (j k : Nat) (s t : State) (h : runTicks j s = .next t) : runTicks (j + k) s = runTicks k t := by
  induction j generalizing s with
  | zero => simp at h; subst h; simp
  | succ j ih =>
    obtain ⟨u, hu, hr⟩ := runTicks_succ_inv j s t h
    rw [Nat.add_right_comm, runTicks_succ _ s u hu]
    exact ih u hr

/-- A run's end sees the inputs of that many ticks later. -/
theorem runTicks_inputAt (k : Nat) (s t : State) (h : runTicks k s = .next t) (j : Nat) :
    t.inputAt j = s.inputAt (k + j) := by
  induction k generalizing s with
  | zero => simp at h; subst h; simp
  | succ k ih =>
    obtain ⟨u, hu, hr⟩ := runTicks_succ_inv k s t h
    rw [ih u hr, step_inputAt s u hu, Nat.add_right_comm]

/-- `runTicks` is the run of the host's interface. -/
theorem runTicks_eq_core_run (k : Nat) (s : State) : Host.Core.run Sys2Proof.core k s = runTicks k s := by
  induction k generalizing s with
  | zero => rfl
  | succ k ih =>
    cases hs : step s with
    | next t =>
      have hc : Sys2Proof.core.step s = .next t := hs
      rw [runTicks_succ k s t hs, ← ih t]
      simp only [Host.Core.run, hc]
    | fault r => exact nomatch r
    | refused r =>
      have hc : Sys2Proof.core.step s = .refused r := hs
      simp only [Host.Core.run, hc, runTicks, hs]
      rfl

end Sys2Proof.Machine
end

