-- ==== Sys2Proof/Laws/Inversion.lean ====
section
/-! SUPPORT. The whole of what a tick without reset can do, as one inductive list of cases with their conditions and their whole
next states, and the lemma that every step is one of them: whole-machine rules are proved by cases on it. -/

namespace Sys2Proof.Machine

/-- The ends of one tick without reset: `TickCase s t` says that `t` is the next state of `s` by one of the rules. -/
inductive TickCase (s : State) : State → Prop
  /-- Idle, no command (R112) -/
  | quiet (hs : s.st = .idle) (hc : s.now.cmdValid = false) : TickCase s s.elapse
  /-- Idle, a reserved word (R186) -/
  | reserved (hs : s.st = .idle) (hc : s.now.cmdValid = true) (hd : ∃ r, decode s.now.cmd = .reserved r) :
      TickCase s (respond .badCommand 0 s.elapse)
  /-- Idle, READ in the cooldown (R201) -/
  | rateLimited (hs : s.st = .idle) (hc : s.now.cmdValid = true) (hd : decode s.now.cmd = .instr .read)
      (hl : s.since.toNat < 2000000) : TickCase s (respond .rateLimited 0 s.elapse)
  /-- Idle, READ accepted (R180) -/
  | accepted (hs : s.st = .idle) (hc : s.now.cmdValid = true) (hd : decode s.now.cmd = .instr .read)
      (hl : 2000000 ≤ s.since.toNat) : TickCase s { s.elapse.goto .awaitIdle with since := 1 }
  /-- Idle, a query (R181 to R185) -/
  | query (hs : s.st = .idle) (hc : s.now.cmdValid = true) (i : Instr) (hd : decode s.now.cmd = .instr i)
      (hi : i ≠ .read) (d : BitVec 40) : TickCase s (respond .ok d s.elapse)
  /-- a pure wait sees its level (R113) -/
  | waitMet (row : WaitRow) (hrow : row ∈ pureWaits) (hs : s.st = row.state) (hl : s.now.sdaIn = row.level) :
      TickCase s (s.elapse.goto row.next)
  /-- AckHigh sees High (R120) -/
  | ackHighMet (hs : s.st = .ackHigh) (hl : s.now.sdaIn = .high) : TickCase s { s.elapse.goto .bitSync with biti := 0 }
  /-- a wait times out (R113, R213) -/
  | waitFailed (row : WaitRow) (hrow : row ∈ ackHighWait :: pureWaits) (hs : s.st = row.state)
      (hl : s.now.sdaIn ≠ row.level) (ht : row.limit < s.tmr.toNat) (e : Status) (he : e.code = row.code) :
      TickCase s (raiseError e s)
  /-- a wait counts (R113) -/
  | waitCounts (row : WaitRow) (hrow : row ∈ ackHighWait :: pureWaits) (hs : s.st = row.state)
      (hl : s.now.sdaIn ≠ row.level) (ht : s.tmr.toNat ≤ row.limit) : TickCase s s.elapse.count
  /-- StartLow ends (R116) -/
  | startLowEnds (hs : s.st = .startLow) (ht : s.tmr.toNat = 17999) : TickCase s (s.elapse.goto .startHigh)
  /-- StartLow counts (R116) -/
  | startLowCounts (hs : s.st = .startLow) (ht : s.tmr.toNat ≠ 17999) : TickCase s s.elapse.count
  /-- StartHigh ends (R117) -/
  | startHighEnds (hs : s.st = .startHigh) (ht : s.tmr.toNat = 0) : TickCase s (s.elapse.goto .awaitAck)
  /-- StartHigh counts, in states no run reaches (R117) -/
  | startHighCounts (hs : s.st = .startHigh) (ht : s.tmr.toNat ≠ 0) : TickCase s s.elapse.count
  /-- BitHigh captures bit 39 (R126) -/
  | lastCapture (hs : s.st = .bitHigh) (hl : s.now.sdaIn = .low) (hb : s.biti.toNat = 39) :
      TickCase s { s.elapse.goto .decode with pt := s.pt.setIfInBounds s.biti.toNat (s.tmr.extractLsb' 0 8) }
  /-- BitHigh captures another bit (R126) -/
  | capture (hs : s.st = .bitHigh) (hl : s.now.sdaIn = .low) (hb : s.biti.toNat ≠ 39) :
      TickCase s
        { s.elapse.goto .bitSync with
          pt := s.pt.setIfInBounds s.biti.toNat (s.tmr.extractLsb' 0 8), biti := s.biti + 1 }
  /-- BitHigh times out (R126, R213) -/
  | bitHighFailed (hs : s.st = .bitHigh) (hl : s.now.sdaIn ≠ .low) (ht : 100 < s.tmr.toNat) :
      TickCase s (raiseError .dataTimeout s)
  /-- BitHigh counts (R126) -/
  | bitHighCounts (hs : s.st = .bitHigh) (hl : s.now.sdaIn ≠ .low) (ht : s.tmr.toNat ≤ 100) : TickCase s s.elapse.count
  /-- Decode (R129) -/
  | decoded (hs : s.st = .decode) : TickCase s { s.elapse.goto .check with frame := assembleFrame s.pt }
  /-- Check commits (R189) -/
  | committed (hs : s.st = .check) (hk : checksumOk s.frame = true) : TickCase s (commit s)
  /-- Check rejects (R189) -/
  | rejected (hs : s.st = .check) (hk : checksumOk s.frame = false) : TickCase s (raiseError .checksumMismatch s)

/-- A pure wait's tick is one of the three wait cases. -/
theorem timedWait_tickCase (row : WaitRow) (hrow : row ∈ pureWaits) (e : Status) (he : e.code = row.code) (s : State)
    (hs : s.st = row.state) : TickCase s (timedWait row.level row.limit e row.next s) := by
  have hmem : row ∈ ackHighWait :: pureWaits := List.mem_cons_of_mem _ hrow
  rcases timedWait_cases row.level row.limit e row.next s with ⟨hl, h⟩ | ⟨hl, ht, h⟩ | ⟨hl, ht, h⟩ <;> rw [h]
  · exact .waitMet row hrow hs hl
  · exact .waitFailed row hmem hs hl ht e he
  · exact .waitCounts row hmem hs hl ht

/-- A tick of a busy state is one of the cases of that state. -/
theorem busyTick_tickCase (s : State) (hs : s.st ≠ .idle) : TickCase s (busyTick s) := by
  cases hx : s.st <;> simp only [busyTick, hx]
  case idle => exact absurd hx hs
  case awaitIdle => exact timedWait_tickCase ⟨.awaitIdle, .high, 250, 2, .startLow⟩ (by decide) .busBusy rfl s hx
  case startLow =>
    rcases hold_cases Config.tStartLow .startHigh s with ⟨ht, h⟩ | ⟨ht, h⟩ <;> simp only [tickStartLow, h]
    · exact .startLowEnds hx ht
    · exact .startLowCounts hx ht
  case startHigh =>
    rcases hold_cases Config.tStartHigh .awaitAck s with ⟨ht, h⟩ | ⟨ht, h⟩ <;> simp only [tickStartHigh, h]
    · exact .startHighEnds hx ht
    · exact .startHighCounts hx ht
  case awaitAck => exact timedWait_tickCase ⟨.awaitAck, .high, 60, 3, .ackLow⟩ (by decide) .notPresent rfl s hx
  case ackLow => exact timedWait_tickCase ⟨.ackLow, .low, 100, 4, .ackHigh⟩ (by decide) .badStart rfl s hx
  case ackHigh =>
    rcases tickAckHigh_cases s with ⟨hl, h⟩ | ⟨hl, ht, h⟩ | ⟨hl, ht, h⟩ <;> rw [h]
    · exact .ackHighMet hx hl
    · exact .waitFailed ackHighWait (by decide) hx hl ht .badStart rfl
    · exact .waitCounts ackHighWait (by decide) hx hl ht
  case bitSync => exact timedWait_tickCase ⟨.bitSync, .low, 100, 5, .bitRise⟩ (by decide) .syncTimeout rfl s hx
  case bitRise => exact timedWait_tickCase ⟨.bitRise, .high, 100, 6, .bitHigh⟩ (by decide) .dataTimeout rfl s hx
  case bitHigh =>
    rcases tickBitHigh_cases s with ⟨hl, h⟩ | ⟨hl, ht, h⟩ | ⟨hl, ht, h⟩ <;> rw [h]
    · rcases capturePulse_cases s with ⟨hb, h'⟩ | ⟨hb, h'⟩ <;> rw [h']
      · exact .lastCapture hx hl hb
      · exact .capture hx hl hb
    · exact .bitHighFailed hx hl ht
    · exact .bitHighCounts hx hl ht
  case decode => exact .decoded hx
  case check =>
    rcases tickCheck_cases s with ⟨hk, h⟩ | ⟨hk, h⟩ <;> rw [h]
    · exact .committed hx hk
    · exact .rejected hx hk

/-- Every step without reset is one of the cases. -/
theorem step_tickCase (s t : State) (hr : s.now.rst = false) (h : step s = .next t) : TickCase s t := by
  rcases step_cases s t h with ⟨hx, _⟩ | ⟨_, hs, hc, rfl⟩ | ⟨_, hs, hc, hd, rfl⟩ | ⟨_, hs, hc, i, hd, he⟩ | ⟨_, hs, rfl⟩
  · exact absurd (hr.symm.trans hx) nofun
  · exact .quiet hs hc
  · exact .reserved hs hc hd
  · rcases exec_cases i s with ⟨rfl, hl, hx⟩ | ⟨rfl, hl, hx⟩ | ⟨hi, d, hx⟩ <;>
      obtain rfl := Host.Outcome.next.inj (hx.symm.trans he)
    · exact .rateLimited hs hc hd hl
    · exact .accepted hs hc hd hl
    · exact .query hs hc i hd hi d
  · exact busyTick_tickCase s hs

/-- The converted readings fit their registers: nothing is lost in `TEMP` and `HUM` (R30, R31, R165). -/
theorem conversion_fits (x : Family) (f : Frame) :
    (BitVec.ofInt 16 (convertTemp x f)).toInt = convertTemp x f ∧
      (BitVec.ofNat 16 (convertHum x f)).toNat = convertHum x f := by
  have h0 := f.humidityHigh.isLt
  have h1 := f.humidityLow.isLt
  have h2 := f.temperatureHigh.isLt
  have h3 := f.temperatureLow.isLt
  have hm := (f.temperatureHigh.extractLsb' 0 7).isLt
  cases x with
  | dht11 =>
    simp only [convertTemp, convertHum, dht11Temp, dht11Hum, BitVec.toInt_ofInt, Int.bmod_def, BitVec.toNat_ofNat]
    omega
  | dht22 =>
    simp only [convertTemp, convertHum, dht22Temp, dht22Hum, rawT, BitVec.toInt_ofInt, Int.bmod_def, BitVec.toNat_ofNat]
    split <;> omega

end Sys2Proof.Machine
end

