-- ==== Sys2Proof/Laws/PerInstr.lean ====
section
/-! SUPPORT. The family CommandWord: of every command, as syntax, its fields are well-formed, its word is those fields in
their places (R87), and its assembler line stands for that word (R95). -/

namespace Sys2Proof.Laws.CommandWord

def Statement (i : Instr) : Prop :=
  i.wf = true ∧ i.fields.wf = true ∧ CmdFields.ofWord (encode i) = i.fields ∧
    (AsmLine.instr i).word = encode i ∧ (AsmLine.instr i).text = i.mnemonic

theorem read : Statement .read := ⟨rfl, rfl, rfl, rfl, rfl⟩
theorem gettC : Statement .gettC := ⟨rfl, rfl, rfl, rfl, rfl⟩
theorem gettF : Statement .gettF := ⟨rfl, rfl, rfl, rfl, rfl⟩
theorem gettK : Statement .gettK := ⟨rfl, rfl, rfl, rfl, rfl⟩
theorem geth : Statement .geth := ⟨rfl, rfl, rfl, rfl, rfl⟩
theorem getraw : Statement .getraw := ⟨rfl, rfl, rfl, rfl, rfl⟩

end Sys2Proof.Laws.CommandWord
end

