-- ==== Sys2Proof/Tests/Slice0.lean ====
section
/-! SUPPORT. Tests of single steps and functions, expected results taken from spec/95_test_vectors.md and from hand
calculation by the rules cited, and for every statement with hypotheses a witness that they can hold together. -/

namespace Sys2Proof.Tests

open Sys2Proof.Machine

/-! ## Small states -/

/-- The corrected DHT22 frame of S4: 02 8A 01 9C 29. -/
def frameG : Frame := ⟨0x02, 0x8A, 0x01, 0x9C, 0x29⟩

/-- The frame as the source misprints it: 02 8A 01 9C 8D (C1). -/
def frameBad : Frame := { frameG with checksum := 0x8D }

/-- A tick in which nothing is asked and the line shows `l`. -/
def quietTick (l : Level) : Inputs := ⟨false, false, l, false, 0⟩

/-- A tick that presents the word `w`. -/
def cmdTick (w : Byte) : Inputs := ⟨false, false, .high, true, w⟩

/-- Idle after program P1: `TEMP` 412, `HUM` 650, `RAW` = G, `VALID` 1, cooldown over (V-SC5). -/
def ready : State where
  st := .idle
  tmr := 0
  biti := 39
  pt := Vector.replicate 40 26
  frame := frameG
  raw := frameG
  temp := 412
  hum := 650
  valid := true
  family := .dht22
  since := 2000000
  rsp := Rsp.silent
  inputs := []
  draw := 0

/-- `ready` put into a state of the transaction, with one scheduled tick. -/
def busyAt (x : St) (tmr : BitVec 16) (l : Level) : State := { ready with st := x, tmr := tmr, inputs := [quietTick l] }

/-- The next state of a step, if it answers one. -/
def nextOf (o : Host.Outcome State Fault Refusal) : Option State :=
  match o with
  | .next t => some t
  | .fault _ => none
  | .refused _ => none

/-- The response of a step. -/
def rspOf (o : Host.Outcome State Fault Refusal) : Option Rsp := (nextOf o).map State.rsp

/-! ## Well-formedness: an ill-formed term for each check -/

theorem test_wf_refuses_op_zero : CmdFields.wf ⟨0, 0⟩ = false := by decide
theorem test_wf_refuses_op_five : CmdFields.wf ⟨5, 0⟩ = false := by decide
theorem test_wf_refuses_unit_three : CmdFields.wf ⟨2, 3⟩ = false := by decide
theorem test_wf_refuses_read_arg_one : CmdFields.wf ⟨1, 1⟩ = false := by decide
theorem test_wf_accepts_kelvin : CmdFields.wf ⟨2, 2⟩ = true := by decide
theorem test_params_wf : Config.params.wf = true := by decide
theorem test_params_refuse_no_start_low : Params.wf { tStartLow := 0 } = false := by decide
theorem test_params_refuse_no_start_high : Params.wf { tStartHigh := 0 } = false := by decide
theorem test_params_refuse_wide_limit : Params.wf { tIdle := 65535 } = false := by decide
theorem test_params_refuse_long_start : Params.wf { tStartLow := 65537 } = false := by decide
theorem test_params_refuse_wide_pulse : Params.wf { tData := 255 } = false := by decide
theorem test_params_refuse_long_cooldown : Params.wf { tCool := 2097152 } = false := by decide
theorem test_params_refuse_bits_not_bytes : Params.wf { nBits := 39 } = false := by decide

/-! ## Decoding: words written out from R87 and R88 -/

theorem test_decode_read : decode 0b00010000 = .instr .read := by decide
theorem test_decode_gettC : decode 0b00100000 = .instr .gettC := by decide
theorem test_decode_gettF : decode 0b00100001 = .instr .gettF := by decide
theorem test_decode_gettK : decode 0b00100010 = .instr .gettK := by decide
theorem test_decode_geth : decode 0b00110000 = .instr .geth := by decide
theorem test_decode_getraw : decode 0b01000000 = .instr .getraw := by decide
theorem test_decode_reserved_ff : decode 0xFF = .reserved .opAbove := by decide
theorem test_decode_reserved_00 : decode 0x00 = .reserved .opZero := by decide
theorem test_table_word : decodeTableWord 8 0x22 = some .gettK := by decide
theorem test_gett_is_celsius : AsmLine.gett.word = 0x20 := by decide
theorem test_raw_word_text : (AsmLine.rawWord 0x2F).text = ".cmd 0x2F" := by decide

/-! ## Functions: S1, V-CV, V-VC, V-DEC -/

theorem test_decodeBit_37 : decodeBit 37 = 0 := by decide
theorem test_decodeBit_38 : decodeBit 38 = 1 := by decide
theorem test_checksum_good : checksumOk frameG = true := by decide
theorem test_checksum_misprint : checksumOk frameBad = false := by decide
theorem test_checksum_largest_sum : checksumOk ⟨0xFF, 0xFF, 0xFF, 0xFF, 0xFC⟩ = true := by decide
theorem test_checksum_carry_dropped : checksumOk ⟨0x80, 0x80, 0, 0, 0⟩ = true := by decide
theorem test_dht22_negative : convertTemp .dht22 ⟨0x02, 0x8A, 0x81, 0x9C, 0xA9⟩ = -412 := by decide
theorem test_dht22_extreme : convertTemp .dht22 ⟨0xFF, 0xFF, 0xFF, 0xFF, 0xFC⟩ = -32767 := by decide
theorem test_dht22_negative_zero : convertTemp .dht22 ⟨0, 0, 0x80, 0, 0x80⟩ = 0 := by decide
theorem test_dht11_ignores_low_bytes :
    (convertTemp .dht11 ⟨0x37, 0x05, 0x17, 0x09, 0x5C⟩, convertHum .dht11 ⟨0x37, 0x05, 0x17, 0x09, 0x5C⟩) = (230, 550) := by
  decide
theorem test_wire_order_first_bit : (frameBits ⟨0x80, 0, 0, 0, 0x01⟩)[0]? = some true := by decide
theorem test_wire_order_last_bit : (frameBits ⟨0x80, 0, 0, 0, 0x01⟩)[39]? = some true := by decide

/-- `PT` of program P1 (V-DEC). -/
def ptP1 : Vector Byte 40 :=
  #v[26, 26, 26, 26, 26, 26, 69, 26, 69, 26, 26, 26, 69, 26, 69, 26, 26, 26, 26, 26, 26, 26, 26, 69, 69, 26, 26, 69, 69,
    69, 26, 26, 26, 26, 69, 26, 69, 26, 26, 69]

theorem test_assemble_P1 : assembleFrame ptP1 = frameG := by decide

/-! ## Commands: V-SC2, V-SC3, V-SC5, program P4 -/

theorem test_read_accepted :
    (nextOf (exec .read ready)).map (fun t => (t.st, t.since, t.rsp.valid)) = some (.awaitIdle, 1, false) := by decide
theorem test_read_rate_limited :
    (nextOf (exec .read { ready with since := 1999999 })).map (fun t => (t.st, t.since, t.rsp)) =
      some (.idle, 2000000, ⟨true, 1, true, 0⟩) := by decide
theorem test_gettC : rspOf (exec .gettC ready) = some ⟨true, 0, true, 0x0000001018⟩ := by decide
theorem test_gettF : rspOf (exec .gettF ready) = some ⟨true, 0, true, 0x0000002978⟩ := by decide
theorem test_gettF_negative : rspOf (exec .gettF { ready with temp := -412 }) = some ⟨true, 0, true, 0xFFFFFFEF88⟩ := by
  decide
theorem test_gettK : rspOf (exec .gettK ready) = some ⟨true, 0, true, 0x0000007ACB⟩ := by decide
theorem test_gettK_below_zero :
    rspOf (exec .gettK { ready with temp := -2732 }) = some ⟨true, 0, true, 0xFFFFFFFFFB⟩ := by decide
theorem test_geth : rspOf (exec .geth ready) = some ⟨true, 0, true, 0x000000028A⟩ := by decide
theorem test_getraw_is_raw_not_frame :
    rspOf (exec .getraw { ready with frame := frameBad }) = some ⟨true, 0, true, 0x028A019C29⟩ := by decide
theorem test_query_before_success_has_no_dv :
    (rspOf (exec .geth { ready with valid := false })).map Rsp.dv = some false := by decide
theorem test_fetch_word_runs_after_reset :
    (rspOf (step (State.reset.withFetchWord 8 0x40))).map Rsp.valid = some true := by decide
theorem test_read_runs_after_reset : (nextOf (step (State.reset.withFetchWord 8 0x10))).map State.st = some .awaitIdle := by
  decide

/-! ## States: V-PD1, V-PD2, V-PD7, V-PD12, V-PD13, P3, V-RST1 -/

theorem test_bus_busy_at_251 :
    (nextOf (step (busyAt .awaitIdle 251 .low))).map (fun t => (t.st, t.tmr, t.rsp)) =
      some (.idle, 0, ⟨true, 2, true, 0⟩) := by decide
theorem test_level_wins_at_251 : (nextOf (step (busyAt .awaitIdle 251 .high))).map State.st = some .startLow := by decide
theorem test_still_waiting_at_250 :
    (nextOf (step (busyAt .awaitIdle 250 .low))).map (fun t => (t.st, t.tmr)) = some (.awaitIdle, 251) := by decide
theorem test_start_low_ends : (nextOf (step (busyAt .startLow 17999 .low))).map State.st = some .startHigh := by decide
theorem test_bit_high_times_out :
    (nextOf (step (busyAt .bitHigh 101 .high))).map (fun t => (t.st, t.rsp.status)) = some (.idle, 6) := by decide
theorem test_bit_high_captures_101 :
    (nextOf (step { busyAt .bitHigh 101 .low with biti := 0 })).map (fun t => (t.st, t.pt[0], t.pt[1], t.biti)) =
      some (.bitSync, 101, 26, 1) := by decide
theorem test_check_rejects :
    (nextOf (step { busyAt .check 0 .low with frame := frameBad })).map (fun t => (t.st, t.rsp.status, t.raw)) =
      some (.idle, 7, frameG) := by decide
theorem test_reset_tick :
    (nextOf (step { busyAt .startLow 9000 .low with inputs := [⟨true, true, .low, true, 0x10⟩] })).map
      (fun t => (t.st, t.tmr, t.valid, t.family, t.since, t.rsp.valid)) =
        some (.idle, 0, false, .dht22, 2000000, false) := by decide
theorem test_strap_names_dht11 : Family.ofStrap false = .dht11 := by decide

/-! ## Witnesses: the hypotheses of each statement hold together -/

/-- A list of quiet ticks showing given levels. -/
def quietTicks (ls : List Level) : List Inputs := ls.map quietTick

theorem quietTicks_sdaIn (ls : List Level) : (quietTicks ls).map Inputs.sdaIn = ls := by
  simp [quietTicks, quietTick, Function.comp_def]

theorem quietTicks_inputAt (s : State) (c : Inputs) (ls : List Level) (hs : s.inputs = c :: quietTicks ls) (j : Nat)
    (hj : j < ls.length) : s.inputAt (j + 1) = quietTick ls[j] := by
  simp [State.inputAt, hs, quietTicks, hj]

theorem quietTicks_inputAt' (s : State) (ls : List Level) (hs : s.inputs = quietTicks ls) (j : Nat)
    (hj : j < ls.length) : s.inputAt j = quietTick ls[j] := by
  simp [State.inputAt, hs, quietTicks, hj]

/-- `ready` with a READ presented now and quiet ticks after it. -/
def readThen (ls : List Level) : State := { ready with inputs := cmdTick 0x10 :: quietTicks ls }

theorem ready_since : 2000000 ≤ ready.since.toNat := by decide

theorem readThen_accepts (ls : List Level) : (readThen ls).accepts := ⟨rfl, rfl, rfl, rfl, ready_since⟩

theorem readThen_noResetFor (ls : List Level) : (readThen ls).noResetFor (ls.length + 1) := by
  intro j hj
  cases j with
  | zero => rfl
  | succ j => rw [quietTicks_inputAt (readThen ls) _ ls rfl j (by omega)]; rfl

/-- A READ with `n` ticks of one level after it. -/
theorem readThen_replicate (n : Nat) (l : Level) :
    (readThen (List.replicate n l)).noResetFor (n + 1) ∧
      ∀ j ≤ n, 1 ≤ j → ((readThen (List.replicate n l)).inputAt j).sdaIn = l := by
  constructor
  · have h := readThen_noResetFor (List.replicate n l)
    rwa [List.length_replicate] at h
  · intro j hj h1
    obtain ⟨k, rfl⟩ : ∃ k, j = k + 1 := ⟨j - 1, by omega⟩
    rw [quietTicks_inputAt (readThen _) _ _ rfl k (by rw [List.length_replicate]; omega)]
    simp [quietTick]

theorem witness_ReservedWordsAnswerBadCommand :
    let s : State := { ready with inputs := [cmdTick 0x23] }
    s.now.rst = false ∧ s.st = .idle ∧ s.now.cmdValid = true ∧
      s.now.cmd ∉ [0x10#8, 0x20#8, 0x21#8, 0x22#8, 0x30#8, 0x40#8] := by decide

theorem witness_PulsesPackIntoTheSentFrame :
    ∀ i : Fin 40, 38 ≤ (ptP1[i]).toNat ↔ frameG.word.getLsbD (39 - i.val) = true := by decide

theorem witness_StepRunsTheDecodedCommand_run :
    let s : State := { ready with inputs := [cmdTick 0x40] }
    s.now.rst = false ∧ s.st = .idle ∧ s.now.cmdValid = true ∧ decode s.now.cmd = .instr .getraw := by decide

theorem witness_StepRunsTheDecodedCommand_quiet :
    let s : State := { ready with inputs := [quietTick .low] }
    s.now.rst = false ∧ s.st = .idle ∧ s.now.cmdValid = false := by decide

theorem witness_AcceptedReadStartsTransaction : 2000000 ≤ ready.since.toNat := by decide

theorem witness_ReadInCooldownIsRateLimited :
    ({ ready with since := 1999999 } : State).since.toNat < 2000000 := by decide

theorem witness_TemperatureAnswersAreExact :
    ∃ t u v, exec .gettC { ready with temp := -32767 } = .next t ∧ exec .gettF { ready with temp := -32767 } = .next u ∧
      exec .gettK { ready with temp := -32767 } = .next v := ⟨_, _, _, rfl, rfl, rfl⟩

theorem witness_RepeatedQueriesAgree_queries :
    ∃ t u, exec .geth ready = .next t ∧
      exec .geth
        ([Instr.gettF].foldl (fun x q => match exec q x with | .next y => y | .fault _ => x | .refused _ => x) t)
        = .next u ∧ Instr.geth ≠ .read ∧ Instr.read ∉ [Instr.gettF] := ⟨_, _, rfl, rfl, nofun, by decide⟩

/-- `ready` in the cooldown, with a quiet tick, a rate-limited READ and a reserved word to come. -/
def idleSpan : State := { ready with since := 5, inputs := [quietTick .low, quietTick .low, cmdTick 0x10, cmdTick 0x23] }

/-- AwaitIdle at the sample that fails, with the tick of a query before it (`exec` does not test `ST`, log 6). -/
def failingSpan : State := { busyAt .awaitIdle 251 .low with inputs := [quietTick .low, quietTick .low] }

/-- A span of quiet, rate-limited and reserved ticks, and one in which a transaction fails. -/
theorem witness_RepeatedQueriesAgree_span :
    (∃ t v u, exec .geth idleSpan = .next t ∧ t.noResetFor 3 ∧
      (∀ j < 3, ∀ w, runTicks j t = .next w → ¬ w.commits) ∧ runTicks 3 t = .next v ∧ exec .geth v = .next u) ∧
    (∃ t v u, exec .geth failingSpan = .next t ∧ t.noResetFor 1 ∧
      (∀ j < 1, ∀ w, runTicks j t = .next w → ¬ w.commits) ∧ runTicks 1 t = .next v ∧ v.rsp.status = 2 ∧
      exec .geth v = .next u) := by
  refine ⟨⟨_, _, _, rfl, by decide, ?_, rfl, rfl⟩, _, _, _, rfl, by decide, ?_, rfl, rfl, rfl⟩
  · intro j hj w hw
    interval_cases j <;> (obtain rfl := Host.Outcome.next.inj hw; exact fun h => nomatch h.1)
  · intro j hj w hw
    interval_cases j
    obtain rfl := Host.Outcome.next.inj hw
    exact fun h => nomatch h.1

theorem witness_UnconsumedCommandsAreIgnored :
    (busyAt .bitRise 3 .low).st ≠ .idle ∧ (quietTick .low).cmdValid = false ∧
      (⟨true, true, .high, true, 0x10⟩ : Inputs).rst = true ∧ ready.st = .idle := by
  decide

theorem witness_LineIsIgnoredOutsideWaits :
    ∀ x ∈ [St.idle, .startLow, .startHigh, .decode, .check],
      (busyAt x 0 .low).st ∈ [St.idle, .startLow, .startHigh, .decode, .check] := by decide

theorem witness_StrapIsIgnoredOutsideReset : (cmdTick 0x10).rst = false := rfl

theorem witness_ResponsePortFollowsItsRule :
    ∃ t u, step (busyAt .awaitIdle 251 .low) = .next t ∧ t.rsp.valid = true ∧
      step (busyAt .awaitIdle 250 .low) = .next u ∧ u.rsp.valid = false := ⟨_, _, rfl, rfl, rfl, rfl⟩

theorem witness_ResetTickTakesResetValues :
    ({ ready with inputs := [⟨true, true, .low, false, 0⟩] } : State).now.rst = true := rfl

/-- Each row's three clauses, at the boundary of its limit. -/
theorem witness_WaitingStatesFollowTheTimedWait :
    ∀ row ∈ pureWaits, ∀ other : Level, other ≠ row.level →
      (let s := busyAt row.state (BitVec.ofNat 16 (row.limit + 1)) row.level;
        s.now.rst = false ∧ s.st = row.state ∧ s.now.sdaIn = row.level) ∧
      (let s := busyAt row.state (BitVec.ofNat 16 (row.limit + 1)) other;
        s.now.rst = false ∧ s.st = row.state ∧ s.now.sdaIn ≠ row.level ∧ row.limit < s.tmr.toNat) ∧
      (let s := busyAt row.state (BitVec.ofNat 16 row.limit) other;
        s.now.rst = false ∧ s.st = row.state ∧ s.now.sdaIn ≠ row.level ∧ s.tmr.toNat ≤ row.limit) := by
  have bound : ∀ row ∈ pureWaits, row.limit < (BitVec.ofNat 16 (row.limit + 1)).toNat ∧
      (BitVec.ofNat 16 row.limit).toNat ≤ row.limit := by decide
  exact fun row hrow other ho =>
    ⟨⟨rfl, rfl, rfl⟩, ⟨rfl, rfl, ho, (bound row hrow).1⟩, ⟨rfl, rfl, ho, (bound row hrow).2⟩⟩

theorem witness_AckHighClearsTheBitIndex :
    (let s := busyAt .ackHigh 101 .high; s.now.rst = false ∧ s.st = .ackHigh ∧ s.now.sdaIn = .high) ∧
    (let s := busyAt .ackHigh 101 .low;
      s.now.rst = false ∧ s.st = .ackHigh ∧ s.now.sdaIn = .low ∧ 100 < s.tmr.toNat) ∧
    (let s := busyAt .ackHigh 100 .low;
      s.now.rst = false ∧ s.st = .ackHigh ∧ s.now.sdaIn = .low ∧ s.tmr.toNat ≤ 100) := by decide

theorem witness_StartStatesHold :
    (let s := busyAt .startLow 17999 .high; s.now.rst = false ∧ s.st = .startLow ∧ s.tmr.toNat = 17999) ∧
    (let s := busyAt .startLow 17998 .high; s.now.rst = false ∧ s.st = .startLow ∧ s.tmr.toNat ≠ 17999) ∧
    (let s := busyAt .startHigh 0 .high; s.now.rst = false ∧ s.st = .startHigh ∧ s.tmr = 0) := by decide

theorem witness_BitHighCapturesThePulse :
    (let s := busyAt .bitHigh 101 .low;
      s.now.rst = false ∧ s.st = .bitHigh ∧ s.bitiInRange ∧ s.now.sdaIn = .low ∧ s.biti.toNat = 39) ∧
    (let s : State := { busyAt .bitHigh 0 .low with biti := 38 };
      s.now.rst = false ∧ s.st = .bitHigh ∧ s.bitiInRange ∧ s.now.sdaIn = .low ∧ s.biti.toNat < 39) ∧
    (let s := busyAt .bitHigh 101 .high;
      s.now.rst = false ∧ s.st = .bitHigh ∧ s.bitiInRange ∧ s.now.sdaIn = .high ∧ 100 < s.tmr.toNat) ∧
    (let s := busyAt .bitHigh 100 .high;
      s.now.rst = false ∧ s.st = .bitHigh ∧ s.bitiInRange ∧ s.now.sdaIn = .high ∧ s.tmr.toNat ≤ 100) := by decide

theorem witness_DecodePacksThresholdedBits :
    let s := busyAt .decode 0 .low; s.now.rst = false ∧ s.st = .decode := by decide

theorem witness_CheckCommitsOrRejects :
    (let s := busyAt .check 0 .low;
      s.now.rst = false ∧ s.st = .check ∧
        (s.frame.humidityHigh.toNat + s.frame.humidityLow.toNat + s.frame.temperatureHigh.toNat
          + s.frame.temperatureLow.toNat) % 256 = s.frame.checksum.toNat) ∧
    (let s : State := { busyAt .check 0 .low with frame := frameBad };
      s.now.rst = false ∧ s.st = .check ∧
        (s.frame.humidityHigh.toNat + s.frame.humidityLow.toNat + s.frame.temperatureHigh.toNat
          + s.frame.temperatureLow.toNat) % 256 ≠ s.frame.checksum.toNat) := by decide

/-- A Check tick under family `x` with temperature byte `b` and a checksum that holds. -/
def checkAt (x : Family) (b : Byte) : State :=
  { busyAt .check 0 .low with family := x, frame := { frameG with temperatureHigh := b, checksum := 0x28 + b } }

theorem witness_CommittedReadingIsTheConversion :
    (∃ t, step (checkAt .dht11 0xFF) = .next t) ∧ checksumOk (checkAt .dht11 0xFF).frame = true ∧
    (∃ t, step (checkAt .dht22 0x7F) = .next t) ∧ checksumOk (checkAt .dht22 0x7F).frame = true ∧
    (∃ t, step (checkAt .dht22 0x80) = .next t) ∧ checksumOk (checkAt .dht22 0x80).frame = true ∧
    (checkAt .dht22 0x7F).frame.temperatureHigh.toNat < 128 ∧ 128 ≤ (checkAt .dht22 0x80).frame.temperatureHigh.toNat ∧
    (checkAt .dht11 0xFF).now.rst = false ∧ (checkAt .dht11 0xFF).st = .check :=
  ⟨⟨_, rfl⟩, by decide, ⟨_, rfl⟩, by decide, ⟨_, rfl⟩, by decide, by decide, by decide, rfl, rfl⟩

theorem witness_OneWrongByteIsDetected :
    checksumOk frameG = true ∧ (0x29 : Byte) ≠ frameG.humidityHigh ∧ (0x29 : Byte) ≠ frameG.humidityLow ∧
      (0x29 : Byte) ≠ frameG.temperatureHigh ∧ (0x29 : Byte) ≠ frameG.temperatureLow ∧
      (0x8D : Byte) ≠ frameG.checksum := by decide

/-- The hypotheses that the whole-machine rules share: a tick without reset that answers a next state. -/
theorem witness_step_without_reset :
    ∃ t, (busyAt .bitSync 101 .high).now.rst = false ∧ step (busyAt .bitSync 101 .high) = .next t :=
  ⟨_, rfl, rfl⟩

theorem witness_ErrorExitWritesStateAndTimerOnly :
    ∃ t, (busyAt .ackLow 101 .high).now.rst = false ∧ step (busyAt .ackLow 101 .high) = .next t ∧ t.rsp.valid = true ∧
      t.rsp.status ∈ [2#4, 3#4, 4#4, 5#4, 6#4, 7#4] := ⟨_, rfl, rfl, rfl, by decide⟩

theorem witness_EachRegisterHasItsWriters :
    ∃ t, (busyAt .bitRise 0 .high).now.rst = false ∧ step (busyAt .bitRise 0 .high) = .next t ∧
      (busyAt .bitRise 0 .high).st ≠ .bitHigh ∧ (busyAt .bitRise 0 .high).st ≠ .decode ∧
      (busyAt .bitRise 0 .high).st ≠ .ackHigh := ⟨_, rfl, rfl, nofun, nofun, nofun⟩

theorem witness_OnlyResetClearsValid :
    ∃ t, step { ready with inputs := [⟨true, true, .low, false, 0⟩] } = .next t ∧ ready.valid = true ∧ t.valid = false :=
  ⟨_, rfl, rfl, rfl⟩

theorem witness_SinceCountsOrRestarts :
    (∃ t, step (readThen []) = .next t) ∧ (readThen []).accepts ∧
      (∃ t, step (busyAt .decode 0 .low) = .next t) ∧ (busyAt .decode 0 .low).now.rst = false ∧
      ¬ (busyAt .decode 0 .low).accepts := ⟨⟨_, rfl⟩, readThen_accepts _, ⟨_, rfl⟩, rfl, fun h => nomatch h.2.1⟩

theorem witness_FamilyMattersInCheckOnly :
    ∃ t, (busyAt .decode 0 .low).now.rst = false ∧ (busyAt .decode 0 .low).st ≠ .check ∧
      step (busyAt .decode 0 .low) = .next t := ⟨_, rfl, nofun, rfl⟩

/-- A state inside a transaction that meets the invariant, with a response due. -/
def dueBusy : State := { busyAt .awaitIdle 251 .low with since := 252 }

/-- The same for NotPresent at its earliest. -/
def dueAbsent : State := { busyAt .awaitAck 61 .low with since := 18064 }

/-- The same for Check at its latest. -/
def dueCheck : State := { busyAt .check 0 .low with since := 30761 }

theorem witness_StepKeepsTheInvariant :
    dueBusy.Inv ∧ dueAbsent.Inv ∧ dueCheck.Inv ∧ ready.Inv ∧ (∃ t, step dueCheck = .next t) :=
  ⟨by decide, by decide, by decide, by decide, _, rfl⟩

theorem witness_ResponseTimesLieWithinTheirBounds :
    (∃ t, dueBusy.Inv ∧ dueBusy.now.rst = false ∧ step dueBusy = .next t ∧ dueBusy.st ≠ .idle ∧ t.rsp.valid = true ∧
      t.rsp.status = 2) ∧
    (∃ t, dueAbsent.Inv ∧ dueAbsent.now.rst = false ∧ step dueAbsent = .next t ∧ dueAbsent.st ≠ .idle ∧
      t.rsp.valid = true ∧ t.rsp.status = 3) ∧
    (∃ t, dueCheck.Inv ∧ dueCheck.now.rst = false ∧ step dueCheck = .next t ∧ dueCheck.st = .check ∧ t.rsp.valid = true) :=
  ⟨⟨_, by decide, rfl, rfl, nofun, rfl, rfl⟩, ⟨_, by decide, rfl, rfl, nofun, rfl, rfl⟩, _, by decide, rfl, rfl, rfl, rfl⟩

theorem witness_EveryAcceptedReadIsAnsweredOnce :
    ∃ s : State, s.accepts ∧ s.noResetFor 30762 :=
  ⟨readThen (List.replicate 30761 .low), readThen_accepts _, (readThen_replicate 30761 .low).1⟩

theorem witness_SinceMeasuresTheTicksSinceAcceptance :
    ∃ s t : State, s.accepts ∧ s.noResetFor 2 ∧
      (∀ j u, 1 ≤ j → j < 2 → runTicks j s = .next u → ¬ u.accepts) ∧ runTicks 2 s = .next t := by
  refine ⟨readThen [.low], _, readThen_accepts _, readThen_noResetFor [.low], ?_, rfl⟩
  intro j u h1 h2 hu
  obtain rfl : j = 1 := by omega
  obtain rfl := Host.Outcome.next.inj hu
  exact fun h => nomatch h.2.1

theorem witness_AcceptedReadsAreTwoSecondsApart :
    ∃ s u : State, s.accepts ∧ s.noResetFor 2 ∧ runTicks 2 s = .next u :=
  ⟨readThen [.low], _, readThen_accepts _, readThen_noResetFor [.low], rfl⟩

/-- Every row's success clause and failure clause at the boundary, the last sample that still counts. -/
theorem witness_WaitsEndWhereTheySay :
    ∀ row ∈ ackHighWait :: pureWaits, ∀ other : Level, other ≠ row.level → ∀ last : Level,
      ∃ s : State, s.st = row.state ∧ s.tmr = 0 ∧ s.noResetFor (row.limit + 1 + 1) ∧
        (∀ j < row.limit + 1, (s.inputAt j).sdaIn ≠ row.level) ∧ (s.inputAt (row.limit + 1)).sdaIn = last := by
  intro row _ other ho last
  refine ⟨{ ready with st := row.state, inputs := quietTicks (List.replicate (row.limit + 1) other ++ [last]) },
    rfl, rfl, ?_, ?_, ?_⟩
  · intro j hj
    rw [quietTicks_inputAt' _ _ rfl j (by simpa using hj)]; rfl
  · intro j hj
    rw [quietTicks_inputAt' _ _ rfl j (by simp; omega)]
    simpa [quietTick, List.getElem_append, hj] using ho
  · rw [quietTicks_inputAt' _ _ rfl _ (by simp)]
    simp [quietTick]

theorem witness_StartSignalLastsExactly :
    ∃ s : State, s.st = .startLow ∧ s.tmr = 0 ∧ s.noResetFor 18001 := by
  refine ⟨{ ready with st := .startLow, inputs := quietTicks (List.replicate 18001 .low) }, rfl, rfl, ?_⟩
  intro j hj
  rw [quietTicks_inputAt' _ _ rfl j (by rw [List.length_replicate]; exact hj)]; rfl

/-- Both runs at any length, so at both ends of their ranges. -/
theorem witness_BitCellIsCapturedAsItsHighRunLessOne :
    ∀ a m : Nat, ∀ b : BitVec 6, b.toNat ≤ 39 →
      ∃ s : State, s.st = .bitSync ∧ s.bitiInRange ∧ s.biti = b ∧ s.noResetFor (a + m + 1) ∧
        (∀ j < a, (s.inputAt j).sdaIn = .low) ∧ (∀ j < a + m, a ≤ j → (s.inputAt j).sdaIn = .high) ∧
        (s.inputAt (a + m)).sdaIn = .low := by
  intro a m b hb
  refine ⟨{ ready with
      st := .bitSync, biti := b, inputs := quietTicks (List.replicate a .low ++ (List.replicate m .high ++ [.low])) },
    rfl, hb, rfl, ?_, ?_, ?_, ?_⟩
  · intro j hj
    rw [quietTicks_inputAt' _ _ rfl j (by simp; omega)]; rfl
  · intro j hj
    rw [quietTicks_inputAt' _ _ rfl j (by simp; omega)]
    simp [quietTick, hj]
  · intro j hj ha
    have h1 : ¬ j < a := by omega
    have h2 : j - a < m := by omega
    rw [quietTicks_inputAt' _ _ rfl j (by simp; omega)]
    simp [quietTick, List.getElem_append, h1, h2]
  · rw [quietTicks_inputAt' _ _ rfl _ (by simp)]
    simp [quietTick]

/-- The model sensor's waveform after an accepted READ, for any frame: a good one and a bad one alike. -/
theorem sensor_witness (n : Nat) (hn : 1 ≤ n) (f : Frame) :
    ∃ (s : State) (pre wave rest : List Inputs), s.accepts ∧ s.inputs = pre ++ wave ++ rest ∧
      pre.length = n + 1 ∧ (∀ i ∈ pre ++ wave, i.rst = false) ∧ pre[1]?.map Inputs.sdaIn = some .high ∧
      wave.map Inputs.sdaIn = waveLevels (sensor f) := by
  refine ⟨readThen (List.replicate n .high ++ waveLevels (sensor f)),
    cmdTick 0x10 :: quietTicks (List.replicate n .high), quietTicks (waveLevels (sensor f)), [],
    readThen_accepts _, ?_, ?_, ?_, ?_, quietTicks_sdaIn _⟩
  · simp only [readThen, quietTicks, List.map_append, List.cons_append, List.append_nil]
  · simp [quietTicks]
  · intro i hi
    simp only [quietTicks, List.mem_append, List.mem_cons, List.mem_map] at hi
    rcases hi with (rfl | ⟨l, _, rfl⟩) | ⟨l, _, rfl⟩ <;> rfl
  · obtain ⟨m, rfl⟩ : ∃ m, n = m + 1 := ⟨n - 1, by omega⟩
    simp [quietTicks, quietTick, List.replicate_succ]

theorem witness_SensorFrameIsDelivered :
    ∀ f : Frame, ∃ (s : State) (pre wave rest : List Inputs), s.accepts ∧ s.inputs = pre ++ wave ++ rest ∧
      pre.length = 18003 ∧ (∀ i ∈ pre ++ wave, i.rst = false) ∧ pre[1]?.map Inputs.sdaIn = some .high ∧
      wave.map Inputs.sdaIn = waveLevels (sensor f) := sensor_witness 18002 (by decide)

theorem witness_SensorFrameIsDelivered_both_checksums : checksumOk frameG = true ∧ checksumOk frameBad = false := by decide

theorem witness_AbsentSensorIsBadStart :
    ∃ s : State, s.accepts ∧ s.noResetFor 18106 ∧ (∀ j ≤ 18105, 1 ≤ j → (s.inputAt j).sdaIn = .high) := by
  exact ⟨readThen (List.replicate 18105 .high), readThen_accepts _, readThen_replicate 18105 .high⟩

theorem witness_StaleWorkRegistersNeverShow : ∃ t, ready.st = .idle ∧ runTicks 3 (readThen [.high, .low]) = .next t :=
  ⟨_, rfl, rfl⟩

/-- `x` with one scheduled tick and no good read yet. -/
def unread (x : State) (i : Inputs) : State := { x with valid := false, inputs := [i] }

/-- A query, a quiet tick, a reserved word, and the good Check that makes the results valid. -/
theorem witness_UnspecifiedResultsShowOnlyWithoutDataValid :
    (∃ t, (unread ready (cmdTick 0x20)).valid = false ∧ runTicks (0 + 1) (unread ready (cmdTick 0x20)) = .next t ∧
      t.rsp.valid = true ∧ t.rsp.status = 0 ∧ t.rsp.dv = false) ∧
    (∃ t, runTicks (0 + 1) (unread ready (quietTick .low)) = .next t ∧ t.rsp.valid = false) ∧
    (∃ t, runTicks (0 + 1) (unread ready (cmdTick 0x23)) = .next t ∧ t.rsp.status ≠ 0) ∧
    (∃ t, runTicks (0 + 1) (unread (busyAt .check 0 .low) (quietTick .low)) = .next t ∧ t.rsp.dv = true ∧
      t.valid = true) :=
  ⟨⟨_, rfl, rfl, rfl, rfl, rfl⟩, ⟨_, rfl, rfl⟩, ⟨_, rfl, by decide⟩, _, rfl, rfl, rfl⟩

end Sys2Proof.Tests
end

/-! The three forms of an Idle tick as equations, and that every tick answers a next state (R7). -/

namespace Sys2Proof.Machine

/-- Idle without a command (R112). -/
theorem idleWith_quiet (run : Instr → State → Host.Outcome State Fault Refusal) (s : State)
    (hc : s.now.cmdValid = false) : idleWith run s = .next (tickIdle s) := by
  simp [idleWith, hc]

/-- Idle with a word that selects a command (R187). -/
theorem idleWith_instr (run : Instr → State → Host.Outcome State Fault Refusal) (s : State) (i : Instr)
    (hc : s.now.cmdValid = true) (hd : decode s.now.cmd = .instr i) : idleWith run s = run i s := by
  simp [idleWith, hc, hd]

/-- Idle with a reserved word (R186). -/
theorem idleWith_reserved (run : Instr → State → Host.Outcome State Fault Refusal) (s : State) (r : Reserved)
    (hc : s.now.cmdValid = true) (hd : decode s.now.cmd = .reserved r) :
    idleWith run s = .next (tickReserved s) := by
  simp [idleWith, hc, hd]

/-- No arm of `exec` refuses. -/
theorem exec_answers (i : Instr) (s : State) : ∃ t, exec i s = .next t := by
  rcases exec_cases i s with ⟨_, _, h⟩ | ⟨_, _, h⟩ | ⟨_, _, h⟩ <;> exact ⟨_, h⟩

/-- An Idle tick answers whenever the meaning it gives to commands does. -/
theorem idleWith_answers (run : Instr → State → Host.Outcome State Fault Refusal)
    (hrun : ∀ i s, ∃ t, run i s = .next t) (s : State) : ∃ t, idleWith run s = .next t := by
  cases hc : s.now.cmdValid with
  | false => exact ⟨_, idleWith_quiet run s hc⟩
  | true =>
    cases hd : decode s.now.cmd with
    | instr i =>
      obtain ⟨t, ht⟩ := hrun i s
      exact ⟨t, (idleWith_instr run s i hc hd).trans ht⟩
    | reserved r => exact ⟨_, idleWith_reserved run s r hc hd⟩

/-- Settles O30, by the kind of tick: reset, Idle, or the rule of a busy state. -/
theorem everyStepAnswersANextState : Obligations.EveryStepAnswersANextState := by
  intro s
  cases hr : s.now.rst with
  | true => exact ⟨_, step_reset s hr⟩
  | false =>
    by_cases hs : s.st = .idle
    · rw [step_idle s hr hs]
      exact idleWith_answers exec exec_answers s
    · exact ⟨_, step_busy s hr hs⟩

end Sys2Proof.Machine

/-! What every tick keeps: `SINCE` and the cooldown, the result registers, the index of the bit, the time spent in a state,
and from these the invariant of R49. -/

namespace Sys2Proof.Machine

/-- A step is a reset tick or one of the cases of a tick without reset. -/
theorem step_reset_or_tickCase {s t : State} (h : step s = .next t) :
    (s.now.rst = true ∧ t = tickReset s) ∨ (s.now.rst = false ∧ TickCase s t) := by
  cases hr : s.now.rst with
  | true => exact .inl ⟨rfl, (Host.Outcome.next.inj ((step_reset s hr).symm.trans h)).symm⟩
  | false => exact .inr ⟨rfl, step_tickCase s t hr h⟩

/-! ### The result registers -/

/-- Only a committing Check writes the results, all four at once (R32, R191). -/
theorem tickCase_results {s t : State} (h : TickCase s t) :
    (t.raw = s.raw ∧ t.temp = s.temp ∧ t.hum = s.hum ∧ t.valid = s.valid) ∨
    (s.commits ∧ t = commit s) := by
  cases h
  case committed hs hk => exact .inr ⟨⟨hs, hk⟩, rfl⟩
  all_goals exact .inl ⟨rfl, rfl, rfl, rfl⟩

/-- A tick without reset keeps `FAMILY` (R35). -/
theorem tickCase_family {s t : State} (h : TickCase s t) : t.family = s.family := by
  cases h <;> rfl

/-- What a commit stores is the conversion of the frame, exactly (R189). -/
theorem commit_readings (s : State) :
    (commit s).temp.toInt = convertTemp s.family s.frame ∧ (commit s).hum.toNat = convertHum s.family s.frame :=
  conversion_fits s.family s.frame

/-- Results stay coherent: they are kept, or replaced by a frame that passed the checksum and its conversion. -/
theorem tickCase_resultsCoherent {s t : State} (h : TickCase s t) (hi : s.resultsCoherent) : t.resultsCoherent := by
  rcases tickCase_results h with ⟨hraw, htemp, hhum, hvalid⟩ | ⟨⟨_, hk⟩, rfl⟩
  · rwa [State.resultsCoherent, hraw, htemp, hhum, hvalid, tickCase_family h]
  · exact fun _ => ⟨hk, commit_readings s⟩

/-! ### `SINCE` -/

/-- Every tick without reset counts `SINCE`, but for the one that accepts a READ and enters AwaitIdle with `SINCE` = 1
(R190). -/
theorem tickCase_since {s t : State} (h : TickCase s t) :
    t.since = sinceNext s.since ∨ (t.st = .awaitIdle ∧ t.tmr = 0 ∧ t.since = 1) := by
  cases h
  case accepted => exact .inr ⟨rfl, rfl, rfl⟩
  all_goals exact .inl rfl

/-- `SINCE` stays between 1 and `T_COOL`, from any value. -/
theorem tickCase_sinceInRange {s t : State} (h : TickCase s t) : t.sinceInRange := by
  rcases tickCase_since h with ht | ⟨_, _, ht⟩ <;> rw [State.sinceInRange, ht]
  · rw [sinceNext_toNat]; omega
  · decide

/-! ### The index of the bit -/

/-- A tick keeps `BITI`, clears it (AckHigh), or moves it on from a value other than 39 (BitHigh). -/
theorem tickCase_biti {s t : State} (h : TickCase s t) :
    t.biti = s.biti ∨ t.biti = 0 ∨ (s.biti.toNat ≠ 39 ∧ t.biti = s.biti + 1) := by
  cases h
  case ackHighMet => exact .inr (.inl rfl)
  case capture hb => exact .inr (.inr ⟨hb, rfl⟩)
  all_goals exact .inl rfl

/-- `BITI + 1` as a number, before the last bit. -/
theorem biti_succ_toNat {b : BitVec 6} (hb : b.toNat ≤ 39) : (b + 1).toNat = b.toNat + 1 := by
  bv_omega

theorem tickCase_bitiInRange {s t : State} (h : TickCase s t) (hi : s.bitiInRange) : t.bitiInRange := by
  rcases tickCase_biti h with ht | ht | ⟨hne, ht⟩ <;> rw [State.bitiInRange, ht]
  · exact hi
  · decide
  · rw [biti_succ_toNat hi]; have := hi; omega

/-! ### The time spent in a state -/

/-- What the invariant says of time: `TMR` within its state's ceiling, `SINCE` within the transaction's bounds. -/
abbrev State.timed (s : State) : Prop := s.tmrInRange ∧ s.sinceInStep

theorem timed_of_idle {t : State} (hs : t.st = .idle) (ht : t.tmr = 0) : t.timed := by
  refine ⟨?_, fun h => absurd hs h⟩
  rw [State.tmrInRange, ht]; exact Nat.zero_le _

/-- `TMR + 1` as a number, below a state's ceiling: it does not wrap. -/
theorem tmr_succ_toNat {x : St} {v : BitVec 16} (hv : v.toNat < x.tmrCeiling) : (v + 1).toNat = v.toNat + 1 := by
  have hx : x.tmrCeiling ≤ 17999 := by cases x <;> decide
  bv_omega

/-- No transaction outlasts 30761 ticks (R245). -/
theorem latest_add_tmrCeiling_le (x : St) {i : Nat} (hi : i ≤ 39) : x.latest i + x.tmrCeiling ≤ 30761 := by
  cases x <;> simp only [St.latest, St.tmrCeiling] <;> omega

section busy

variable {s : State} (hi : s.Inv) (hs : s.st ≠ .idle)
include hi hs

/-- Inside a transaction `SINCE` is far from saturating, so it counts by one. -/
theorem sinceNext_toNat_of_busy : (sinceNext s.since).toNat = s.since.toNat + 1 := by
  obtain ⟨htmr, hbiti, _, hstep, _⟩ := hi
  have hlast := latest_add_tmrCeiling_le s.st hbiti
  have hsince := (hstep hs).2
  rw [sinceNext_toNat]; omega

/-- Counting below the ceiling keeps time: `TMR` and `SINCE` both grow by one. -/
theorem timed_count (ht : s.tmr.toNat < s.st.tmrCeiling) : s.elapse.count.timed := by
  have htmr : s.elapse.count.tmr.toNat = s.tmr.toNat + 1 := tmr_succ_toNat ht
  have hsince : s.elapse.count.since.toNat = s.since.toNat + 1 := sinceNext_toNat_of_busy hi hs
  obtain ⟨_, _, _, hstep, _⟩ := hi
  have hb := hstep hs
  constructor
  · rw [State.tmrInRange, htmr]; exact ht
  · intro _
    rw [htmr, hsince]
    exact ⟨Nat.succ_le_succ hb.1, Nat.succ_le_succ hb.2⟩

/-- Entering a state keeps time when that state's bounds take up the one tick spent. -/
theorem timed_enter {t : State} (htmr : t.tmr = 0) (hsince : t.since = sinceNext s.since)
    (hleast : t.st.earliest t.biti.toNat ≤ s.st.earliest s.biti.toNat + s.tmr.toNat + 1)
    (hmost : s.st.latest s.biti.toNat + s.tmr.toNat + 1 ≤ t.st.latest t.biti.toNat) : t.timed := by
  have hnow := sinceNext_toNat_of_busy hi hs
  obtain ⟨_, _, _, hstep, _⟩ := hi
  have hb := hstep hs
  constructor
  · rw [State.tmrInRange, htmr]; exact Nat.zero_le _
  · intro _
    rw [htmr, hsince, hnow]
    have hzero : (0 : BitVec 16).toNat = 0 := rfl
    omega

end busy

/-- R246 for the pure waits: the least a wait takes is one tick, the most is its ceiling and one. -/
theorem pureWaits_bounds : ∀ row ∈ pureWaits, ∀ i : Nat,
    row.state ≠ .idle ∧ row.next.earliest i = row.state.earliest i + 1 ∧
      row.next.latest i = row.state.latest i + row.state.tmrCeiling + 1 := by
  intro row hrow i
  simp only [pureWaits, List.mem_cons, List.not_mem_nil, or_false] at hrow
  rcases hrow with rfl | rfl | rfl | rfl | rfl <;> refine ⟨nofun, ?_, ?_⟩ <;>
    simp only [St.earliest, St.latest, St.tmrCeiling] <;> omega

/-- A wait's ceiling is the sample after its limit (R114). -/
theorem waits_tmrCeiling : ∀ row ∈ ackHighWait :: pureWaits,
    row.state ≠ .idle ∧ row.state.tmrCeiling = row.limit + 1 := by decide

/-- Every tick without reset keeps time. -/
theorem tickCase_timed {s t : State} (h : TickCase s t) (hi : s.Inv) : t.timed := by
  have hinv := hi
  obtain ⟨htmr, hbiti, _, _, _⟩ := hinv
  have idle (hs : s.st = .idle) : s.tmr = 0 := by
    rw [State.tmrInRange, hs] at htmr
    exact BitVec.eq_of_toNat_eq (Nat.le_zero.mp htmr)
  cases h with
  | quiet hs => exact timed_of_idle hs (idle hs)
  | reserved hs => exact timed_of_idle hs (idle hs)
  | rateLimited hs => exact timed_of_idle hs (idle hs)
  | query hs => exact timed_of_idle hs (idle hs)
  | accepted => exact ⟨Nat.zero_le _, fun _ => ⟨Nat.le_refl 1, Nat.le_refl 1⟩⟩
  | waitMet row hrow hs =>
    obtain ⟨hbusy, hleast, hmost⟩ := pureWaits_bounds row hrow s.biti.toNat
    rw [State.tmrInRange, hs] at htmr
    exact timed_enter hi (hs ▸ hbusy) rfl rfl (by simp [hs, hleast]) (by simp [hs, hmost, htmr])
  | ackHighMet hs =>
    rw [State.tmrInRange, hs, St.tmrCeiling] at htmr
    refine timed_enter hi (by simp [hs]) rfl rfl ?_ ?_ <;> simp [hs, St.earliest, St.latest]
    omega
  | waitCounts row hrow hs _ ht =>
    obtain ⟨hbusy, hceil⟩ := waits_tmrCeiling row hrow
    exact timed_count hi (hs ▸ hbusy) (by rw [hs, hceil]; exact Nat.lt_succ_of_le ht)
  | startLowEnds hs ht =>
    refine timed_enter hi (by simp [hs]) rfl rfl ?_ ?_ <;> simp [hs, ht, St.earliest, St.latest]
  | startLowCounts hs ht =>
    rw [State.tmrInRange, hs, St.tmrCeiling] at htmr
    exact timed_count hi (by simp [hs]) (by rw [hs, St.tmrCeiling]; omega)
  | startHighEnds hs ht =>
    refine timed_enter hi (by simp [hs]) rfl rfl ?_ ?_ <;> simp [hs, ht, St.earliest, St.latest]
  | startHighCounts hs ht =>
    rw [State.tmrInRange, hs, St.tmrCeiling] at htmr
    exact absurd (Nat.le_zero.mp htmr) ht
  | lastCapture hs _ hb =>
    rw [State.tmrInRange, hs, St.tmrCeiling] at htmr
    refine timed_enter hi (by simp [hs]) rfl rfl ?_ ?_ <;> simp [hs, hb, St.earliest, St.latest]
    omega
  | capture hs _ hb =>
    rw [State.tmrInRange, hs, St.tmrCeiling] at htmr
    refine timed_enter hi (by simp [hs]) rfl rfl ?_ ?_ <;>
      simp only [goto_st, hs, St.earliest, St.latest, biti_succ_toNat hbiti] <;> omega
  | bitHighCounts hs _ ht =>
    exact timed_count hi (by simp [hs]) (by rw [hs, St.tmrCeiling]; omega)
  | decoded hs =>
    rw [State.tmrInRange, hs, St.tmrCeiling] at htmr
    refine timed_enter hi (by simp [hs]) rfl rfl ?_ ?_ <;> simp [hs, St.earliest, St.latest]
    omega
  | waitFailed => exact timed_of_idle rfl rfl
  | bitHighFailed => exact timed_of_idle rfl rfl
  | committed => exact timed_of_idle rfl rfl
  | rejected => exact timed_of_idle rfl rfl

/-! ### The invariant -/

/-- The state right after any reset meets the invariant. -/
theorem resetValues_inv (x : Family) (d : Nat) (l : List Inputs) : (State.resetValues x d l).Inv :=
  ⟨Nat.le_refl 0, Nat.zero_le 39, by rw [State.sinceInRange, resetValues_since]; decide, fun h => absurd rfl h, nofun⟩

/-- Settles O40: a reset tick leads to a state that meets the invariant, and every other tick keeps each part of it. -/
theorem stepKeepsTheInvariant : Obligations.StepKeepsTheInvariant := by
  intro s t hi h
  rcases step_reset_or_tickCase h with ⟨_, rfl⟩ | ⟨_, hc⟩
  · exact resetValues_inv ..
  · obtain ⟨htmr, hstep⟩ := tickCase_timed hc hi
    obtain ⟨_, hbiti, _, _, hres⟩ := hi
    exact ⟨htmr, tickCase_bitiInRange hc hbiti, tickCase_sinceInRange hc, hstep, tickCase_resultsCoherent hc hres⟩

/-- Settles O39: the reset state is one of the states right after a reset. -/
theorem resetMeetsTheInvariant : Obligations.ResetMeetsTheInvariant := resetValues_inv ..

end Sys2Proof.Machine

/-! Whole-machine rules by the cases of a tick, what a tick reads of its inputs, and how long `SINCE` has counted. -/

namespace Sys2Proof.Machine

/-! ### Whole-machine rules -/

/-- A tick without reset moves along the fixed order: the waits by their table, every other rule by its state (R23). -/
theorem tickCase_st_mem_successors {s t : State} (h : TickCase s t) : t.st ∈ s.st.successors := by
  have met : ∀ row ∈ pureWaits, row.next ∈ row.state.successors := by decide
  have failed : ∀ row ∈ ackHighWait :: pureWaits, St.idle ∈ row.state.successors := by decide
  have counts : ∀ row ∈ ackHighWait :: pureWaits, row.state ∈ row.state.successors := by decide
  cases h
  case waitMet row hrow hs _ => rw [hs]; exact met row hrow
  case waitFailed row hrow hs _ _ _ _ => rw [hs]; exact failed row hrow
  case waitCounts row hrow hs _ _ => rw [count_st, elapse_st, hs]; exact counts row hrow
  all_goals simp [*, commit, St.successors]

/-- Settles O31: a tick without reset moves along the fixed order. -/
theorem stateRegisterFollowsTheFixedOrder : Obligations.StateRegisterFollowsTheFixedOrder :=
  fun s t hr h => tickCase_st_mem_successors (step_tickCase s t hr h)

/-- Settles O34: a tick keeps the four results or is a commit, whose response and readings are R189's. -/
theorem resultsChangeTogetherOnSuccessOnly : Obligations.ResultsChangeTogetherOnSuccessOnly := by
  intro s t hr h
  rcases tickCase_results (step_tickCase s t hr h) with hkept | ⟨⟨hs, hk⟩, rfl⟩
  · exact .inl hkept
  · exact .inr ⟨hs, hk, rfl, rfl, (commit_readings s).1, (commit_readings s).2, rfl⟩

/-- Settles O36: a tick without reset keeps `VALID` or sets it. -/
theorem onlyResetClearsValid : Obligations.OnlyResetClearsValid := by
  intro s t h hv hclear
  rcases step_reset_or_tickCase h with ⟨hr, _⟩ | ⟨_, hc⟩
  · exact hr
  · rcases tickCase_results hc with ⟨_, _, _, hkept⟩ | ⟨_, rfl⟩
    · exact absurd ((hkept.trans hv).symm.trans hclear) nofun
    · exact absurd hclear nofun

/-- Settles O35, by the cases of a tick: all but four rules write none of these registers. -/
theorem eachRegisterHasItsWriters : Obligations.EachRegisterHasItsWriters := by
  intro s t hr h
  cases step_tickCase s t hr h
  case ackHighMet hs _ => exact ⟨fun _ => rfl, fun _ => rfl, fun hne => absurd hs hne, rfl⟩
  case lastCapture hs _ _ => exact ⟨fun hne => absurd hs hne, fun _ => rfl, fun _ _ => rfl, rfl⟩
  case capture hs _ _ => exact ⟨fun hne => absurd hs hne, fun _ => rfl, fun _ hne => absurd hs hne, rfl⟩
  case decoded hs => exact ⟨fun _ => rfl, fun hne => absurd hs hne, fun _ _ => rfl, rfl⟩
  all_goals exact ⟨fun _ => rfl, fun _ => rfl, fun _ _ => rfl, rfl⟩

/-! ### The ports -/

/-- Settles O17, state by state. -/
theorem outputsFollowTheStateRegister : Obligations.OutputsFollowTheStateRegister := by
  intro x
  cases x <;> decide

/-- Settles O20: the reset values of R48. -/
theorem resetStateHoldsTheSpecifiedValues : Obligations.ResetStateHoldsTheSpecifiedValues :=
  ⟨rfl, rfl, rfl, rfl, rfl, rfl, rfl, rfl, rfl, rfl⟩

/-- A tick without reset drives nothing, or a response with some status whose `rsp_dv` is the new `VALID` (R47). -/
theorem tickCase_rsp {s t : State} (h : TickCase s t) :
    t.rsp = Rsp.silent ∨ ∃ (c : Status) (d : BitVec 40), t.rsp = ⟨true, c.code, t.valid, d⟩ := by
  cases h
  case reserved | rateLimited | query | waitFailed | bitHighFailed | committed | rejected => exact .inr ⟨_, _, rfl⟩
  all_goals exact .inl rfl

/-- The codes of R91. -/
theorem Status.code_legal (c : Status) : c.code.toNat ≤ 7 ∨ c.code = 15 := by
  cases c <;> decide

/-- Settles O18: a reset tick drives nothing, every other tick nothing or one of the statuses. -/
theorem responsePortFollowsItsRule : Obligations.ResponsePortFollowsItsRule := by
  intro s t h
  have hport : t.rsp = Rsp.silent ∨ ∃ (c : Status) (d : BitVec 40), t.rsp = ⟨true, c.code, t.valid, d⟩ := by
    rcases step_reset_or_tickCase h with ⟨_, rfl⟩ | ⟨_, hc⟩
    · exact .inl rfl
    · exact tickCase_rsp hc
  rcases hport with hsilent | ⟨c, d, hresp⟩
  · rw [hsilent]; exact ⟨fun _ => rfl, nofun⟩
  · rw [hresp]; exact ⟨nofun, fun _ => ⟨c.code_legal, rfl⟩⟩

/-- The word of a command, presented as a table word of eight bits, decodes to the command (R88). -/
theorem decode_table_encode (i : Instr) : decode (BitVec.ofNat 8 ((encode i).toNat % 2 ^ 8)) = .instr i := by
  cases i <;> rfl

/-- Settles O7: the placed word is a valid command in an Idle tick without reset. -/
theorem fetchedWordRunsNext : Obligations.FetchedWordRunsNext := by
  intro s i
  rw [step_idle _ rfl rfl]
  exact idleWith_instr exec _ i rfl (decode_table_encode i)

/-! ### What a tick reads of its inputs -/

/-- The states whose rule looks at the line (R40). -/
def St.waits (x : St) : Prop := x ∉ [St.idle, .startLow, .startHigh, .decode, .check]

section reads

variable {s u : State} (he : s.elapse = u.elapse)
include he

/-- States that tick alike by default agree on the registers that rules read besides `VALID` and `SINCE`, on the inputs to
come and on the count of ticks. -/
theorem fields_of_elapse_eq : s.st = u.st ∧ s.tmr = u.tmr ∧ s.biti = u.biti ∧ s.pt = u.pt ∧ s.frame = u.frame ∧
    s.raw = u.raw ∧ s.temp = u.temp ∧ s.hum = u.hum ∧ s.family = u.family ∧ s.inputs.tail = u.inputs.tail ∧
    s.draw + 1 = u.draw + 1 :=
  ⟨(congrArg State.st he :), (congrArg State.tmr he :), (congrArg State.biti he :), (congrArg State.pt he :),
    (congrArg State.frame he :), (congrArg State.raw he :), (congrArg State.temp he :), (congrArg State.hum he :),
    (congrArg State.family he :), (congrArg State.inputs he :), (congrArg State.draw he :)⟩

/-- A timed wait reads the line and what the default update of the tick keeps. -/
theorem timedWait_congr (hl : s.now.sdaIn = u.now.sdaIn) (l : Level) (n : Nat) (e : Status) (x : St) :
    timedWait l n e x s = timedWait l n e x u := by
  obtain ⟨_, htmr, _⟩ := fields_of_elapse_eq he
  simp only [timedWait, raiseError, he, hl, htmr]

/-- A hold does not read the line. -/
theorem hold_congr (n : Nat) (x : St) : hold n x s = hold n x u := by
  obtain ⟨_, htmr, _⟩ := fields_of_elapse_eq he
  simp only [hold, he, htmr]

/-- The rule of a busy state reads the line, in the waiting states alone, and what the default update of the tick keeps. -/
theorem busyTick_congr (hs : s.st ≠ .idle) (hl : s.st.waits → s.now.sdaIn = u.now.sdaIn) :
    busyTick s = busyTick u := by
  obtain ⟨hst, htmr, hbiti, hpt, hframe, _, _, _, hfamily, _⟩ := fields_of_elapse_eq he
  cases hx : s.st <;> rw [hx] at hs hl <;> simp only [busyTick, hx, ← hst]
  case idle => contradiction
  case startLow | startHigh => exact hold_congr he ..
  case awaitIdle | awaitAck | ackLow | bitSync | bitRise => exact timedWait_congr he (hl (by simp [St.waits])) ..
  case ackHigh =>
    have hline := hl (by simp [St.waits])
    simp only [tickAckHigh, timedWait_congr he hline, he, hline]
  case bitHigh =>
    have hline := hl (by simp [St.waits])
    simp only [tickBitHigh, capturePulse, raiseError, he, hline, htmr, hbiti, hpt]
  case decode => simp only [tickDecode, he, hpt]
  case check => simp only [tickCheck, commit, raiseError, he, hframe, hfamily]

/-- A command reads no input port. -/
theorem exec_congr (hsince : s.since = u.since) (c : Instr) : exec c s = exec c u := by
  obtain ⟨_, _, _, _, _, hraw, htemp, hhum, _⟩ := fields_of_elapse_eq he
  cases c with
  | read => simp only [exec, execRead, he, hsince]
  | gettC => simp only [exec, execGettC, answer, he, htemp]
  | gettF => simp only [exec, execGettF, answer, he, htemp]
  | gettK => simp only [exec, execGettK, answer, he, htemp]
  | geth => simp only [exec, execGeth, answer, he, hhum]
  | getraw => simp only [exec, execGetraw, answer, he, hraw]

/-- An Idle tick reads `cmd_valid`, and `cmd` only with `cmd_valid` = 1 (R41, R187). -/
theorem idleWith_congr (hsince : s.since = u.since) (hvalid : s.now.cmdValid = u.now.cmdValid)
    (hcmd : u.now.cmdValid = true → s.now.cmd = u.now.cmd) : idleWith exec s = idleWith exec u := by
  cases hc : u.now.cmdValid with
  | false => simp only [idleWith_quiet exec, hvalid, hc, tickIdle, he]
  | true =>
    have hdecode := congrArg decode (hcmd hc)
    cases hd : decode u.now.cmd with
    | instr c =>
      rw [idleWith_instr exec s c (hvalid.trans hc) (hdecode.trans hd), idleWith_instr exec u c hc hd]
      exact exec_congr he hsince c
    | reserved r =>
      rw [idleWith_reserved exec s r (hvalid.trans hc) (hdecode.trans hd), idleWith_reserved exec u r hc hd]
      simp only [tickReserved, he]

/-- A step reads of its inputs: `rst`; the strap in a reset tick; else in Idle the command port, and of it `cmd` only if
`cmd_valid` = 1; else the line, in the waiting states. -/
theorem step_congr (hsince : s.since = u.since) (hr : s.now.rst = u.now.rst)
    (hstrap : u.now.rst = true → s.now.cfgFamily = u.now.cfgFamily)
    (hvalid : u.now.rst = false → s.st = .idle → s.now.cmdValid = u.now.cmdValid)
    (hcmd : u.now.rst = false → s.st = .idle → u.now.cmdValid = true → s.now.cmd = u.now.cmd)
    (hline : s.st.waits → s.now.sdaIn = u.now.sdaIn) : step s = step u := by
  obtain ⟨hst, _, _, _, _, _, _, _, _, hinputs, hdraw⟩ := fields_of_elapse_eq he
  cases hrst : u.now.rst with
  | true =>
    rw [step_reset s (hr.trans hrst), step_reset u hrst]
    simp only [tickReset, hstrap hrst, hinputs, hdraw]
  | false =>
    by_cases hs : s.st = .idle
    · rw [step_idle s (hr.trans hrst) hs, step_idle u hrst (hst.symm.trans hs)]
      exact idleWith_congr he hsince (hvalid hrst hs) (hcmd hrst hs)
    · rw [step_busy s (hr.trans hrst) hs, step_busy u hrst (hst ▸ hs), busyTick_congr he hs hline]

end reads

/-- Settles O14: in each clause the step reads nothing of what differs. -/
theorem unconsumedCommandsAreIgnored : Obligations.UnconsumedCommandsAreIgnored := by
  intro s i rest v w
  refine ⟨fun hs => ?_, fun hc => ?_, fun hr => ?_⟩
  · exact step_congr rfl rfl rfl (fun _ => rfl) (fun _ h => absurd h hs) (fun _ h => absurd h hs) (fun _ => rfl)
  · exact step_congr rfl rfl rfl (fun _ => rfl) (fun _ _ => rfl) (fun _ _ h => absurd (hc.symm.trans h) nofun)
      (fun _ => rfl)
  · exact step_congr rfl rfl rfl (fun _ => rfl) (fun h => absurd (hr.symm.trans h) nofun)
      (fun h => absurd (hr.symm.trans h) nofun) (fun _ => rfl)

/-- Settles O15: the five states are those that do not read the line. -/
theorem lineIsIgnoredOutsideWaits : Obligations.LineIsIgnoredOutsideWaits := by
  intro s i rest l hs
  exact step_congr rfl rfl rfl (fun _ => rfl) (fun _ _ => rfl) (fun _ _ _ => rfl) (fun hw => absurd hs hw)

/-- Settles O16: only a reset tick reads the strap. -/
theorem strapIsIgnoredOutsideReset : Obligations.StrapIsIgnoredOutsideReset := by
  intro s i rest v hr
  exact step_congr rfl rfl rfl (fun h => absurd (hr.symm.trans h) nofun) (fun _ _ => rfl) (fun _ _ _ => rfl)
    (fun _ => rfl)

/-! ### `SINCE` along a run -/

/-- Every run answers. -/
theorem runTicks_answers (k : Nat) (s : State) : ∃ t, runTicks k s = .next t := by
  induction k generalizing s with
  | zero => exact ⟨s, rfl⟩
  | succ k ih =>
    obtain ⟨t, ht⟩ := everyStepAnswersANextState s
    rw [runTicks_succ k s t ht]
    exact ih t

/-- A run of `k + 1` ticks is a run of `k` and one tick. -/
theorem runTicks_succ_last_inv (k : Nat) (s t : State) (h : runTicks (k + 1) s = .next t) :
    ∃ u, runTicks k s = .next u ∧ step u = .next t := by
  obtain ⟨u, hu⟩ := runTicks_answers k s
  rw [runTicks_add k 1 s u hu] at h
  obtain ⟨v, hv, hlast⟩ := runTicks_succ_inv 0 u t h
  exact ⟨u, hu, hv.trans hlast⟩

/-- READ is the word 0x10 and no other (R88). -/
theorem decode_eq_read_iff (w : Byte) : decode w = .instr .read ↔ w = 0x10 := by
  revert w; decide

/-- Every tick without reset that accepts no READ counts `SINCE` (R190). -/
theorem tickCase_since_of_not_accepts {s t : State} (hr : s.now.rst = false) (h : TickCase s t) (hn : ¬ s.accepts) :
    t.since = sinceNext s.since := by
  cases h
  case accepted hs hc hd hl => exact absurd ⟨hr, hs, hc, (decode_eq_read_iff _).mp hd, hl⟩ hn
  all_goals rfl

/-- The tick that accepts a READ restarts `SINCE` at 1 (R180). -/
theorem step_since_of_accepts {s t : State} (ha : s.accepts) (h : step s = .next t) : t.since = 1 := by
  obtain ⟨hr, hs, hc, hw, hl⟩ := ha
  rw [step_idle s hr hs, idleWith_instr exec s .read hc ((decode_eq_read_iff _).mpr hw)] at h
  rcases exec_cases .read s with ⟨_, hlt, _⟩ | ⟨_, _, he⟩ | ⟨hne, _⟩
  · exact absurd hl (Nat.not_le.mpr hlt)
  · rw [← Host.Outcome.next.inj (he.symm.trans h)]
  · exact absurd rfl hne

/-- Settles O43, by induction on the ticks after the first, each of which counts. -/
theorem sinceMeasuresTheTicksSinceAcceptance : Obligations.SinceMeasuresTheTicksSinceAcceptance := by
  intro s t k ha hk hr hn hrun
  induction k, hk using Nat.le_induction generalizing t with
  | base =>
    obtain ⟨u, hfirst, hu⟩ := runTicks_succ_inv 0 s t hrun
    obtain rfl := Host.Outcome.next.inj hu
    rw [step_since_of_accepts ha hfirst]; decide
  | succ k hk ih =>
    obtain ⟨u, hu, hlast⟩ := runTicks_succ_last_inv k s t hrun
    have hrst : u.now.rst = false := by
      rw [← inputAt_zero, runTicks_inputAt k s u hu 0]
      exact hr k (Nat.lt_succ_self k)
    have hcount := tickCase_since_of_not_accepts hrst (step_tickCase u t hrst hlast) (hn k u hk (Nat.lt_succ_self k) hu)
    have hprev := ih u (fun j hj => hr j (hj.trans (Nat.lt_succ_self k)))
      (fun j v h1 h2 => hn j v h1 (h2.trans (Nat.lt_succ_self k))) hu
    rw [hcount, sinceNext_toNat, hprev]
    omega

end Sys2Proof.Machine

/-! `PT`, `FRAME` and `FAMILY` are read by few rules: a tick outside Check carries other values of them along, and the values
that `PT` and `FRAME` hold in Idle are written over before any rule reads them. -/

namespace Sys2Proof.Machine

/-! ### Ticks with other values in `PT`, `FRAME` and `FAMILY` -/

/-- `s` with other values in the work registers `PT` and `FRAME` and in `FAMILY`. -/
def State.withWork (s : State) (p : Vector Byte 40) (f : Frame) (x : Family) : State :=
  { s with pt := p, frame := f, family := x }

/-- What a tick without reset makes of a value `p` of `PT`: BitHigh captures into it (R126). -/
def State.ptAfter (s : State) (p : Vector Byte 40) : Vector Byte 40 :=
  if s.st = .bitHigh ∧ s.now.sdaIn = .low then p.setIfInBounds s.biti.toNat (s.tmr.extractLsb' 0 8) else p

/-- What a tick without reset makes of a value `f` of `FRAME`: Decode packs `PT` into it (R129). -/
def State.frameAfter (s : State) (p : Vector Byte 40) (f : Frame) : Frame :=
  if s.st = .decode then assembleFrame p else f

theorem ptAfter_of_ne_bitHigh {s : State} (hs : s.st ≠ .bitHigh) (p : Vector Byte 40) : s.ptAfter p = p :=
  if_neg fun h => hs h.1

theorem ptAfter_of_ne_low {s : State} (hl : s.now.sdaIn ≠ .low) (p : Vector Byte 40) : s.ptAfter p = p :=
  if_neg fun h => hl h.2

theorem ptAfter_of_capture {s : State} (hs : s.st = .bitHigh) (hl : s.now.sdaIn = .low) (p : Vector Byte 40) :
    s.ptAfter p = p.setIfInBounds s.biti.toNat (s.tmr.extractLsb' 0 8) := if_pos ⟨hs, hl⟩

theorem frameAfter_of_ne_decode {s : State} (hs : s.st ≠ .decode) (p : Vector Byte 40) (f : Frame) :
    s.frameAfter p f = f := if_neg hs

theorem frameAfter_of_decode {s : State} (hs : s.st = .decode) (p : Vector Byte 40) (f : Frame) :
    s.frameAfter p f = assembleFrame p := if_pos hs

section withWork

variable (s : State) (p : Vector Byte 40) (f : Frame) (x : Family)

@[simp] theorem withWork_st : (s.withWork p f x).st = s.st := rfl
@[simp] theorem withWork_tmr : (s.withWork p f x).tmr = s.tmr := rfl
@[simp] theorem withWork_biti : (s.withWork p f x).biti = s.biti := rfl
@[simp] theorem withWork_now : (s.withWork p f x).now = s.now := rfl

/-- The timed wait neither reads nor writes `PT`, `FRAME` and `FAMILY`. -/
theorem timedWait_withWork (l : Level) (n : Nat) (e : Status) (y : St) :
    timedWait l n e y (s.withWork p f x) = (timedWait l n e y s).withWork p f x := by
  simp only [timedWait, apply_ite (State.withWork · p f x)]
  rfl

/-- Nor does the hold. -/
theorem hold_withWork (n : Nat) (y : St) : hold n y (s.withWork p f x) = (hold n y s).withWork p f x := by
  simp only [hold, apply_ite (State.withWork · p f x)]
  rfl

/-- A captured pulse goes into whatever `PT` holds. -/
theorem capturePulse_withWork :
    capturePulse (s.withWork p f x) =
      (capturePulse s).withWork (p.setIfInBounds s.biti.toNat (s.tmr.extractLsb' 0 8)) f x := by
  simp only [capturePulse, apply_ite (State.withWork · (p.setIfInBounds s.biti.toNat (s.tmr.extractLsb' 0 8)) f x)]
  rfl

/-- The rule of a busy state other than Check carries the other values along. -/
theorem busyTick_withWork (hk : s.st ≠ .check) :
    busyTick (s.withWork p f x) = (busyTick s).withWork (s.ptAfter p) (s.frameAfter p f) x := by
  by_cases hb : s.st = .bitHigh
  · rw [frameAfter_of_ne_decode (by simp [hb])]
    by_cases hl : s.now.sdaIn = .low
    · rw [ptAfter_of_capture hb hl]
      simpa [busyTick, hb, tickBitHigh, hl] using capturePulse_withWork s p f x
    · rw [ptAfter_of_ne_low hl]
      simp only [busyTick, hb, tickBitHigh, withWork_st, withWork_now, hl, if_false,
        apply_ite (State.withWork · p f x)]
      rfl
  · rw [ptAfter_of_ne_bitHigh hb]
    by_cases hd : s.st = .decode
    · rw [frameAfter_of_decode hd]
      simp only [busyTick, hd, withWork_st]; rfl
    · rw [frameAfter_of_ne_decode hd]
      cases hx : s.st <;> simp only [busyTick, hx, withWork_st]
      case bitHigh | decode | check => contradiction
      case startLow | startHigh => exact hold_withWork ..
      case awaitIdle | awaitAck | ackLow | bitSync | bitRise => exact timedWait_withWork ..
      case ackHigh =>
        simp only [tickAckHigh, timedWait_withWork, apply_ite (State.withWork · p f x)]
        rfl

/-- A command neither reads nor writes `PT`, `FRAME` and `FAMILY`. -/
theorem exec_withWork (c : Instr) {t : State} (h : exec c s = .next t) :
    exec c (s.withWork p f x) = .next (t.withWork p f x) := by
  cases c with
  | read =>
    rcases exec_cases .read s with ⟨_, hlt, he⟩ | ⟨_, hle, he⟩ | ⟨hne, _⟩
    · obtain rfl := Host.Outcome.next.inj (he.symm.trans h)
      exact if_pos hlt
    · obtain rfl := Host.Outcome.next.inj (he.symm.trans h)
      exact if_neg (Nat.not_lt.mpr hle)
    · exact absurd rfl hne
  | gettC | gettF | gettK | geth | getraw => obtain rfl := Host.Outcome.next.inj h; rfl

/-- A step without reset outside Check carries the other values along. -/
theorem step_withWork {t : State} (hr : s.now.rst = false) (hk : s.st ≠ .check) (h : step s = .next t) :
    step (s.withWork p f x) = .next (t.withWork (s.ptAfter p) (s.frameAfter p f) x) := by
  by_cases hs : s.st = .idle
  · rw [ptAfter_of_ne_bitHigh (by simp [hs]), frameAfter_of_ne_decode (by simp [hs]), step_idle (s.withWork p f x) hr hs]
    rcases step_cases s t h with ⟨hx, _⟩ | ⟨_, _, hc, rfl⟩ | ⟨_, _, hc, ⟨r, hd⟩, rfl⟩ | ⟨_, _, hc, c, hd, he⟩ | ⟨_, hx, _⟩
    · exact absurd (hr.symm.trans hx) nofun
    · exact idleWith_quiet exec (s.withWork p f x) hc
    · exact idleWith_reserved exec (s.withWork p f x) r hc hd
    · exact (idleWith_instr exec (s.withWork p f x) c hc hd).trans (exec_withWork s p f x c he)
    · exact absurd hs hx
  · obtain rfl := Host.Outcome.next.inj ((step_busy s hr hs).symm.trans h)
    rw [step_busy (s.withWork p f x) hr hs, busyTick_withWork s p f x hk]

end withWork

/-- Settles O38: a step outside Check carries another `FAMILY` along and makes of `PT` and `FRAME` what it makes anyway. -/
theorem familyMattersInCheckOnly : Obligations.FamilyMattersInCheckOnly := by
  intro s t x hr hk h
  have hsame : t = t.withWork (s.ptAfter s.pt) (s.frameAfter s.pt s.frame) s.family :=
    Host.Outcome.next.inj (h.symm.trans (step_withWork s s.pt s.frame s.family hr hk h))
  have hother := step_withWork s s.pt s.frame x hr hk h
  have hfamily := congrArg (fun y : State => { y with family := x }) hsame
  exact hother.trans (congrArg _ hfamily.symm)

/-! ### Stale values of `PT` and `FRAME` -/

/-- `p` and `f` agree with `PT` and `FRAME` of `s` wherever a rule may still read what is there now: on the pulses of the
bits received, on all pulses in Decode, and on the frame in Check. -/
structure State.AgreesWhereRead (s : State) (p : Vector Byte 40) (f : Frame) : Prop where
  pulses : s.st ∈ [St.bitSync, .bitRise, .bitHigh] → ∀ j < s.biti.toNat, p[j]? = s.pt[j]?
  allPulses : s.st = .decode → p = s.pt
  frame : s.st = .check → f = s.frame

/-- From Idle to AckHigh nothing of `PT` and `FRAME` will be read as it is now. -/
theorem agreesWhereRead_of_unread {s : State} (hs : s.st ∉ [St.bitSync, .bitRise, .bitHigh, .decode, .check])
    (p : Vector Byte 40) (f : Frame) : s.AgreesWhereRead p f := by
  constructor <;> intro h <;> simp_all

/-- Writing one value at place `i` of two lists of pulses that agree below `i` makes them agree up to `i`. -/
theorem setIfInBounds_agree {p q : Vector Byte 40} {i : Nat} (v : Byte) (h : ∀ j < i, p[j]? = q[j]?) :
    ∀ j < i + 1, (p.setIfInBounds i v)[j]? = (q.setIfInBounds i v)[j]? := by
  intro j hj
  rw [Vector.getElem?_setIfInBounds, Vector.getElem?_setIfInBounds]
  by_cases hij : i = j
  · rw [if_pos hij, if_pos hij]
  · rw [if_neg hij, if_neg hij, h j (by omega)]

/-- A tick that leaves `BITI` and `PT` alone keeps the agreement, if it enters no state that reads more. -/
theorem agreesWhereRead_of_kept {s t : State} {p : Vector Byte 40} {f : Frame} (ha : s.AgreesWhereRead p f)
    (hbiti : t.biti = s.biti) (hpt : t.pt = s.pt)
    (hbits : t.st ∈ [St.bitSync, .bitRise, .bitHigh] → s.st ∈ [St.bitSync, .bitRise, .bitHigh])
    (hdecode : t.st ≠ .decode) (hcheck : t.st ≠ .check) : t.AgreesWhereRead p f where
  pulses ht := by rw [hbiti, hpt]; exact ha.pulses (hbits ht)
  allPulses ht := absurd ht hdecode
  frame ht := absurd ht hcheck

/-- No wait is BitHigh, Decode or Check or leads to Decode or Check, and a pure wait that leads to a state of a bit is in one. -/
theorem waits_bits : ∀ row ∈ ackHighWait :: pureWaits,
    row.state ≠ .bitHigh ∧ row.state ≠ .decode ∧ row.state ≠ .check ∧ row.next ≠ .decode ∧ row.next ≠ .check ∧
      (row ∈ pureWaits → row.next ∈ [St.bitSync, .bitRise, .bitHigh] →
        row.state ∈ [St.bitSync, .bitRise, .bitHigh]) := by decide

/-- A capture keeps the agreement on the pulses received, of which there is one more. -/
theorem capture_agrees {s : State} {p : Vector Byte 40} {f : Frame} (hs : s.st = .bitHigh) (hl : s.now.sdaIn = .low)
    (ha : s.AgreesWhereRead p f) : ∀ j < s.biti.toNat + 1, (s.ptAfter p)[j]? = (s.ptAfter s.pt)[j]? := by
  rw [ptAfter_of_capture hs hl, ptAfter_of_capture hs hl]
  exact setIfInBounds_agree _ (ha.pulses (by simp [hs]))

/-- A tick without reset keeps the agreement: Decode is entered after bit 39, when the pulses received are all there are. -/
theorem agreesWhereRead_tick {s t : State} {p : Vector Byte 40} {f : Frame} (h : TickCase s t)
    (ha : s.AgreesWhereRead p f) : t.AgreesWhereRead (s.ptAfter p) (s.frameAfter p f) := by
  cases h
  case waitMet row hrow hs _ =>
    obtain ⟨hb, hd, _, hnd, hnk, hbits⟩ := waits_bits row (List.mem_cons_of_mem _ hrow)
    rw [ptAfter_of_ne_bitHigh (hs ▸ hb), frameAfter_of_ne_decode (hs ▸ hd)]
    exact agreesWhereRead_of_kept ha rfl rfl (hs ▸ hbits hrow) hnd hnk
  case waitCounts row hrow hs _ _ =>
    obtain ⟨hb, hd, hk, _⟩ := waits_bits row hrow
    rw [ptAfter_of_ne_bitHigh (hs ▸ hb), frameAfter_of_ne_decode (hs ▸ hd)]
    exact agreesWhereRead_of_kept ha rfl rfl id (hs ▸ hd) (hs ▸ hk)
  case bitHighCounts hs hl _ =>
    rw [ptAfter_of_ne_low hl, frameAfter_of_ne_decode (by simp [hs])]
    exact agreesWhereRead_of_kept ha rfl rfl id (by simp [hs]) (by simp [hs])
  case ackHighMet => exact ⟨fun _ j hj => absurd hj (Nat.not_lt_zero j), nofun, nofun⟩
  case capture hs hl hb =>
    refine ⟨fun _ j hj => ?_, nofun, nofun⟩
    have hlt : j < s.biti.toNat + 1 := lt_of_lt_of_le hj (by bv_omega)
    rw [capture_agrees hs hl ha j hlt, ptAfter_of_capture hs hl]
  case lastCapture hs hl hb =>
    refine ⟨nofun, fun _ => Vector.ext fun j hj => ?_, nofun⟩
    have hj' := capture_agrees hs hl ha j (by omega)
    rw [ptAfter_of_capture hs hl s.pt] at hj'
    simpa [hj] using hj'
  case decoded hs =>
    refine ⟨nofun, nofun, fun _ => ?_⟩
    rw [frameAfter_of_decode hs, ha.allPulses hs]
  all_goals
    refine agreesWhereRead_of_unread ?_ _ _
    simp [*, commit]

/-- Check reads no pulse and keeps them all. -/
theorem step_check_stale {s t : State} (p : Vector Byte 40) (hr : s.now.rst = false) (hk : s.st = .check)
    (h : step s = .next t) : step { s with pt := p } = .next { t with pt := p } := by
  have check (u : State) (hu : u.now.rst = false) (hs : u.st = .check) : step u = .next (tickCheck u) := by
    rw [step_busy u hu (by simp [hs]), busyTick, hs]
  obtain rfl := Host.Outcome.next.inj ((check s hr hk).symm.trans h)
  rw [check { s with pt := p } hr hk]
  rcases tickCheck_cases s with ⟨hf, he⟩ | ⟨hf, he⟩ <;> rw [he]
  · exact congrArg _ (if_pos hf)
  · exact congrArg _ (if_neg (by simp [hf]))

/-- One tick, reset or not: with other values that agree where they are read, the next states differ in nothing else and
agree again where they are read. -/
theorem step_stale {s t : State} {p : Vector Byte 40} {f : Frame} (ha : s.AgreesWhereRead p f) (h : step s = .next t) :
    ∃ q g, step { s with pt := p, frame := f } = .next { t with pt := q, frame := g } ∧ t.AgreesWhereRead q g := by
  rcases step_reset_or_tickCase h with ⟨hr, rfl⟩ | ⟨hr, hc⟩
  · exact ⟨_, _, step_reset { s with pt := p, frame := f } hr, ⟨fun _ _ _ => rfl, fun _ => rfl, fun _ => rfl⟩⟩
  · by_cases hk : s.st = .check
    · obtain rfl := ha.frame hk
      have hidle : t.st = .idle := by simpa [hk, St.successors] using tickCase_st_mem_successors hc
      exact ⟨p, t.frame, step_check_stale p hr hk h, agreesWhereRead_of_unread (by simp [hidle]) ..⟩
    · refine ⟨s.ptAfter p, s.frameAfter p f, ?_, agreesWhereRead_tick hc ha⟩
      have hfamily := congrArg (t.withWork (s.ptAfter p) (s.frameAfter p f)) (tickCase_family hc)
      exact (step_withWork s p f s.family hr hk h).trans (congrArg _ hfamily.symm)

/-- A run, with or without resets, carries other values that agree where they are read along and shows none of them. -/
theorem runTicks_stale (k : Nat) {s t : State} {p : Vector Byte 40} {f : Frame} (ha : s.AgreesWhereRead p f)
    (h : runTicks k s = .next t) :
    ∃ q g, runTicks k { s with pt := p, frame := f } = .next { t with pt := q, frame := g } := by
  induction k generalizing s p f with
  | zero =>
    obtain rfl := Host.Outcome.next.inj h
    exact ⟨p, f, rfl⟩
  | succ k ih =>
    obtain ⟨u, hu, hrest⟩ := runTicks_succ_inv k s t h
    obtain ⟨q, g, hstep, hagree⟩ := step_stale ha hu
    rw [runTicks_succ k _ _ hstep]
    exact ih hagree hrest

/-- Settles O50: in Idle nothing of `PT` and `FRAME` is read as it is, so a run with other values differs in these two alone. -/
theorem staleWorkRegistersNeverShow : Obligations.StaleWorkRegistersNeverShow := by
  intro k s t p f hs h
  obtain ⟨q, g, hrun⟩ := runTicks_stale k (agreesWhereRead_of_unread (by simp [hs]) p f) h
  exact ⟨_, hrun, rfl, rfl, rfl, rfl, rfl, rfl, rfl, rfl⟩

end Sys2Proof.Machine

/-! The frame that Decode packs is the one whose bits the pulses show, bit by bit (R82, R128, R129); and a query answers from
the results, which nothing but a reset and a committing Check writes (R32, R67). -/

namespace Sys2Proof

/-! ### The bytes of a frame -/

/-- Byte `j` of a frame (R28). -/
def Frame.byte (f : Frame) (j : Fin 5) : Byte :=
  #v[f.humidityHigh, f.humidityLow, f.temperatureHigh, f.temperatureLow, f.checksum][j]

/-- A frame is its five bytes. -/
theorem Frame.ext_byte {f g : Frame} (h : ∀ j, f.byte j = g.byte j) : f = g := by
  cases f; cases g
  simpa [Frame.byte, Fin.forall_fin_succ] using h

/-- Bit `m` of byte `j` in the word in wire order (R64, R82). -/
theorem Frame.word_getLsbD (f : Frame) (j : Fin 5) {m : Nat} (hm : m < 8) :
    f.word.getLsbD (m + 8 * (4 - j.val)) = (f.byte j).getLsbD m := by
  change BitVec.getLsbD (w := 8 + 8 + 8 + 8 + 8) (_ ++ _ ++ _ ++ _ ++ _) _ = _
  simp only [BitVec.getLsbD_append]
  fin_cases j <;> simp +arith [Frame.byte, hm]

end Sys2Proof

namespace Sys2Proof.Machine

/-! ### Packing pulses -/

/-- A pulse is a 1 from the threshold on (R128). -/
theorem pulseBit_eq_toNat (pt : Vector Byte 40) (i : Nat) :
    pulseBit pt i = (decide (38 ≤ ((pt[i]?).getD 0).toNat)).toNat := by
  rw [Bool.toNat, Bool.cond_decide]
  rfl

/-- Eight bits summed at their places, the first one highest, are the number with these binary digits. -/
theorem sum_shiftLeft_eq_ofBits (b : Nat → Bool) :
    ((List.range 8).map fun k => (b k).toNat <<< (7 - k)).sum = Nat.ofBits fun k : Fin 8 => b (7 - k) := by
  simp [List.range_succ, Nat.ofBits_succ, Nat.shiftLeft_eq]
  omega

/-- Bit `m` of packed byte `j` is that of pulse `8 * j + (7 - m)` (R129). -/
theorem frameByte_getLsbD (pt : Vector Byte 40) {j m : Nat} (hj : j < 5) (hm : m < 8) :
    (frameByte pt j).getLsbD m = decide (38 ≤ pt[8 * j + (7 - m)].toNat) := by
  simp only [frameByte, pulseBit_eq_toNat]
  rw [sum_shiftLeft_eq_ofBits fun k => decide (38 ≤ ((pt[8 * j + k]?).getD 0).toNat), BitVec.getLsbD_ofNat,
    Nat.testBit_ofBits_lt _ _ hm]
  simp [hm, show 8 * j + (7 - m) < 40 by omega]

/-- Decode packs byte by byte (R129). -/
@[simp] theorem assembleFrame_byte (pt : Vector Byte 40) (j : Fin 5) : (assembleFrame pt).byte j = frameByte pt j := by
  fin_cases j <;> rfl

/-- Settles O5: each bit of each packed byte is that of its pulse, and so that of its place in the word on the wire. -/
theorem pulsesPackIntoTheSentFrame : Obligations.PulsesPackIntoTheSentFrame := by
  intro f pt h
  refine Frame.ext_byte fun j => BitVec.eq_of_getLsbD_eq fun m hm => ?_
  have hplace : 39 - (8 * j.val + (7 - m)) = m + 8 * (4 - j.val) := by omega
  have hpulse : 38 ≤ pt[8 * j.val + (7 - m)].toNat ↔ f.word.getLsbD (m + 8 * (4 - j.val)) = true :=
    hplace ▸ h ⟨8 * j.val + (7 - m), by omega⟩
  calc ((assembleFrame pt).byte j).getLsbD m
      = (frameByte pt j).getLsbD m := by simp only [assembleFrame_byte]
    _ = decide (38 ≤ pt[8 * j.val + (7 - m)].toNat) := frameByte_getLsbD pt j.isLt hm
    _ = f.word.getLsbD (m + 8 * (4 - j.val)) := Bool.eq_iff_iff.mpr (decide_eq_true_iff.trans hpulse)
    _ = (f.byte j).getLsbD m := f.word_getLsbD j hm

/-! ### What a query answers -/

/-- The four results: `RAW`, `TEMP`, `HUM` and `VALID` (R32). -/
def State.results (s : State) : Frame × BitVec 16 × BitVec 16 × Bool := (s.raw, s.temp, s.hum, s.valid)

/-- A command writes no result. -/
theorem exec_results {i : Instr} {s t : State} (h : exec i s = .next t) : t.results = s.results := by
  rcases exec_cases i s with ⟨_, _, he⟩ | ⟨_, _, he⟩ | ⟨_, _, he⟩ <;>
    (obtain rfl := Host.Outcome.next.inj (he.symm.trans h); rfl)

/-- The response to a query reads the results and nothing else (R67). -/
theorem query_rsp_congr {i : Instr} {s t u v : State} (hi : i ≠ .read) (hres : u.results = s.results)
    (hs : exec i s = .next t) (hu : exec i u = .next v) : v.rsp = t.rsp := by
  obtain ⟨hraw, htemp, hhum, hvalid⟩ : u.raw = s.raw ∧ u.temp = s.temp ∧ u.hum = s.hum ∧ u.valid = s.valid := by
    simpa [State.results] using hres
  cases i with
  | read => exact absurd rfl hi
  | gettC | gettF | gettK | geth | getraw =>
    obtain rfl := Host.Outcome.next.inj hs
    obtain rfl := Host.Outcome.next.inj hu
    simp only [respond_rsp, elapse_valid, hraw, htemp, hhum, hvalid]

/-- A tick without reset that commits no read keeps the results (R32). -/
theorem tickCase_results_of_not_commits {s t : State} (h : TickCase s t) (hn : ¬ s.commits) : t.results = s.results := by
  rcases tickCase_results h with ⟨hraw, htemp, hhum, hvalid⟩ | ⟨hc, _⟩
  · simp only [State.results, hraw, htemp, hhum, hvalid]
  · exact absurd hc hn

/-- So does a run without resets and committing Checks. -/
theorem runTicks_results {k : Nat} {s t : State} (hr : s.noResetFor k)
    (hn : ∀ j < k, ∀ w, runTicks j s = .next w → ¬ w.commits) (h : runTicks k s = .next t) : t.results = s.results := by
  induction k generalizing t with
  | zero =>
    obtain rfl := Host.Outcome.next.inj h
    rfl
  | succ k ih =>
    have hk : k < k + 1 := Nat.lt_succ_self k
    obtain ⟨u, hu, hlast⟩ := runTicks_succ_last_inv k s t h
    have hrst : u.now.rst = false := by
      rw [← inputAt_zero, runTicks_inputAt k s u hu 0]
      exact hr k hk
    have hprev := ih (fun j hj => hr j (hj.trans hk)) (fun j hj => hn j (hj.trans hk)) hu
    exact (tickCase_results_of_not_commits (step_tickCase u t hrst hlast) (hn k hk u hu)).trans hprev

/-- Settles O13: neither queries nor ticks without a reset or a commit write the results a query reads. -/
theorem repeatedQueriesAgree : Obligations.RepeatedQueriesAgree := by
  intro i s t u hi hs
  refine ⟨fun between _ hu => ?_, fun k v hr hn hv hu => ?_⟩
  · refine query_rsp_congr hi (Eq.trans ?_ (exec_results hs)) hs hu
    refine List.foldlRecOn (motive := fun x : State => x.results = t.results) between _ rfl fun x hx q _ => ?_
    obtain ⟨y, hy⟩ := exec_answers q x
    simpa only [hy] using (exec_results hy).trans hx
  · exact query_rsp_congr hi ((runTicks_results hr hn hv).trans (exec_results hs)) hs hu

end Sys2Proof.Machine

/-! Words and commands: a word and its two fields determine each other, so a word selects a command exactly when it is that
command's word, and the reserved words are the rest (R87, R88, R92). -/

namespace Sys2Proof.Machine

/-- Splitting a word and joining its fields gives the word back (R87). -/
@[simp] theorem word_ofWord (w : Byte) : (CmdFields.ofWord w).word = w :=
  (BitVec.extractLsb'_append_extractLsb'_eq_extractLsb' rfl).trans BitVec.extractLsb'_eq_self

/-- Joining fields and splitting the word gives the fields back (R87). -/
@[simp] theorem ofWord_word (f : CmdFields) : CmdFields.ofWord f.word = f :=
  congrArg₂ CmdFields.mk BitVec.extractLsb'_append_eq_left BitVec.extractLsb'_append_eq_right

/-- The opcode map, read from the fields to the command: each selecting row of the map is the fields of its command. -/
theorem decodeFields_eq_instr_iff (f : CmdFields) (i : Instr) : decodeFields f = .instr i ↔ f = i.fields := by
  obtain ⟨op, arg⟩ := f
  revert op arg
  cases i <;> decide

/-- A word selects a command exactly when it is the command's word (R88). -/
theorem decode_eq_instr_iff (w : Byte) (i : Instr) : decode w = .instr i ↔ w = encode i := by
  rw [decode, decodeFields_eq_instr_iff]
  constructor
  · intro h
    rw [encode, ← h, word_ofWord]
  · rintro rfl
    exact ofWord_word i.fields

/-- Decoding the word of a command gives the command. -/
@[simp] theorem decode_encode (i : Instr) : decode (encode i) = .instr i := (decode_eq_instr_iff _ i).mpr rfl

/-- Settles O1: the decoder inverts the encoder, and a table word of eight bits is the word itself. -/
theorem decodeEncodeAgree : Obligations.DecodeEncodeAgree := by
  intro i
  refine ⟨decode_encode i, ?_⟩
  rw [decodeTableWord, decode_table_encode, Decoded.toOption]

/-- Settles O2: a command's word and mnemonic stand in its own row of the list and in no other. -/
theorem wordSelectsCommand : Obligations.WordSelectsCommand := by
  intro w i
  rw [decode_eq_instr_iff]
  cases i <;> simp [Instr.mnemonic, encode, CmdFields.word, Instr.fields]

/-- Settles O3: the four command words are those of their commands; the other two lie in two of R92's classes. -/
theorem writtenOutWordsDecode : Obligations.WrittenOutWordsDecode :=
  ⟨decode_encode .read, decode_encode .gettF, decode_encode .geth, decode_encode .getraw, rfl, rfl⟩

/-- A word is reserved when it is none of the six (R92). -/
theorem decode_reserved_of_notMem {w : Byte} (hw : w ∉ [0x10#8, 0x20#8, 0x21#8, 0x22#8, 0x30#8, 0x40#8]) :
    ∃ r, decode w = .reserved r := by
  cases hd : decode w with
  | reserved r => exact ⟨r, rfl⟩
  | instr i =>
    obtain rfl := (decode_eq_instr_iff w i).mp hd
    refine absurd ?_ hw
    cases i <;> decide

/-- Settles O4: R92's classes are the complement of the six as numbers, and such a word reaches the reserved rule of Idle. -/
theorem reservedWordsAnswerBadCommand : Obligations.ReservedWordsAnswerBadCommand := by
  refine ⟨fun w => ?_, fun s hr hs hc hw => ?_⟩
  · have hlt := w.isLt
    simp only [List.mem_cons, List.not_mem_nil, or_false, ← BitVec.toNat_inj, BitVec.toNat_ofNat]
    omega
  · obtain ⟨r, hd⟩ := decode_reserved_of_notMem hw
    rw [step_idle s hr hs, idleWith_reserved exec s r hc hd]
    rfl

end Sys2Proof.Machine

/-! Runs along a line: what the block does while the line shows given levels and no reset comes, as triples that compose;
the waits, the start signal, a bit cell and Check in this form, and from them the delivery of the model sensor's frame. -/

namespace Sys2Proof.Machine

/-! ### Triples over the levels of the line -/

/-- From this tick on no reset comes while the line shows `ls`. -/
def State.Sees (s : State) (ls : List Level) : Prop :=
  ∀ (j : Nat) (l : Level), ls[j]? = some l → (s.inputAt j).rst = false ∧ (s.inputAt j).sdaIn = l

/-- Who sees levels sees those they begin with. -/
theorem State.Sees.left {s : State} {ls ms : List Level} (h : s.Sees (ls ++ ms)) : s.Sees ls :=
  fun j l hj => h j l (by rw [List.getElem?_append_left (List.getElem?_eq_some_iff.mp hj).1, hj])

/-- A run uses up the levels it passes. -/
theorem State.Sees.after {s t : State} {ls ms : List Level} (h : s.Sees (ls ++ ms))
    (hrun : runTicks ls.length s = .next t) : t.Sees ms := by
  intro j l hj
  rw [runTicks_inputAt ls.length s t hrun j]
  exact h _ l (by rw [List.getElem?_append_right (Nat.le_add_right ..), Nat.add_sub_cancel_left, hj])

/-- Every state of `P` that sees `ls` runs through these levels to a state of `Q`. -/
def LeadsTo (P : State → Prop) (ls : List Level) (Q : State → Prop) : Prop :=
  ∀ s, P s → s.Sees ls → ∃ t, runTicks ls.length s = .next t ∧ Q t

theorem leadsTo_nil (P : State → Prop) : LeadsTo P [] P := fun s hs _ => ⟨s, rfl, hs⟩

section triples

variable {P Q R : State → Prop} {ls ms : List Level}

/-- Triples compose along the line. -/
theorem LeadsTo.append (h : LeadsTo P ls Q) (h' : LeadsTo Q ms R) : LeadsTo P (ls ++ ms) R := by
  intro s hp hs
  obtain ⟨t, ht, hq⟩ := h s hp hs.left
  obtain ⟨u, hu, hr⟩ := h' t hq (hs.after ht)
  exact ⟨u, by rw [List.length_append, runTicks_add _ _ s t ht, hu], hr⟩

theorem LeadsTo.cons {l : Level} (h : LeadsTo P [l] Q) (h' : LeadsTo Q ms R) : LeadsTo P (l :: ms) R := h.append h'

end triples

/-! ### Registers apart from the time -/

/-- A state without what every tick may change: `TMR`, `SINCE`, the response port, the inputs and the count of ticks. -/
def State.untimed (s : State) : State :=
  { s with tmr := 0, since := 0, rsp := Rsp.silent, inputs := [], draw := 0 }

/-- A state with other bits received. -/
def State.withBits (s : State) (p : Vector Byte 40) (i : BitVec 6) : State := { s with pt := p, biti := i }

/-- A state that has spent `n` ticks in its state `ST` and whose other registers are those of `c`. -/
structure At (c : State) (n : Nat) (s : State) : Prop where
  untimed : s.untimed = c.untimed
  tmr : s.tmr.toNat = n

section At

variable {c s : State} {n : Nat}

theorem At.st (h : At c n s) : s.st = c.st := (congrArg State.st h.untimed :)
theorem At.biti (h : At c n s) : s.biti = c.biti := (congrArg State.biti h.untimed :)
theorem At.pt (h : At c n s) : s.pt = c.pt := (congrArg State.pt h.untimed :)
theorem At.frame (h : At c n s) : s.frame = c.frame := (congrArg State.frame h.untimed :)
theorem At.family (h : At c n s) : s.family = c.family := (congrArg State.family h.untimed :)
theorem At.raw (h : At c n s) : s.raw = c.raw := (congrArg State.raw h.untimed :)
theorem At.temp (h : At c n s) : s.temp = c.temp := (congrArg State.temp h.untimed :)
theorem At.hum (h : At c n s) : s.hum = c.hum := (congrArg State.hum h.untimed :)
theorem At.valid (h : At c n s) : s.valid = c.valid := (congrArg State.valid h.untimed :)

/-- Counting moves `TMR` alone. -/
theorem At.count (h : At c n s) (hn : n < 2 ^ 16 - 1) : At c (n + 1) s.elapse.count where
  untimed := h.untimed
  tmr := by
    have hone : (1 : BitVec 16).toNat = 1 := rfl
    rw [count_tmr, elapse_tmr, BitVec.toNat_add_of_lt (by rw [h.tmr, hone]; omega), h.tmr, hone]

/-- Entering a state clears `TMR` and moves `ST` alone. -/
theorem At.goto (h : At c n s) (x : St) : At (c.goto x) 0 (s.elapse.goto x) :=
  ⟨congrArg (fun u : State => { u with st := x }) h.untimed, rfl⟩

/-- One tick of a busy state, as a triple. -/
theorem leadsTo_tick {l : Level} {Q : State → Prop} (hc : c.st ≠ .idle)
    (h : ∀ s, At c n s → s.now.sdaIn = l → Q (busyTick s)) : LeadsTo (At c n) [l] Q := by
  intro s hs hsee
  obtain ⟨hr, hl⟩ := hsee 0 l rfl
  exact ⟨busyTick s, runTicks_succ 0 s _ (step_busy s hr (hs.st ▸ hc)), h s hs hl⟩

/-- A state that counts at each level shown counts all of them. -/
theorem leadsTo_counts {ls : List Level}
    (h : ∀ m, n ≤ m → m < n + ls.length → ∀ l ∈ ls, LeadsTo (At c m) [l] (At c (m + 1))) :
    LeadsTo (At c n) ls (At c (n + ls.length)) := by
  induction ls generalizing n with
  | nil => exact leadsTo_nil _
  | cons l ls ih =>
    have hlen : n + (l :: ls).length = n + 1 + ls.length := by rw [List.length_cons]; omega
    have hfirst := h n le_rfl (by omega) l List.mem_cons_self
    rw [hlen] at h ⊢
    exact hfirst.cons (ih fun m hm hlt l hl => h m (by omega) hlt l (List.mem_cons_of_mem _ hl))

end At

/-! ### The waits (R113) -/

/-- The rule of a pure wait is the timed wait of its row. -/
theorem busyTick_pureWait {row : WaitRow} (hrow : row ∈ pureWaits) {s : State} (hs : s.st = row.state) :
    ∃ e : Status, e.code = row.code ∧ busyTick s = timedWait row.level row.limit e row.next s := by
  simp only [pureWaits, List.mem_cons, List.not_mem_nil, or_false] at hrow
  rcases hrow with rfl | rfl | rfl | rfl | rfl <;> simp only [busyTick, hs]
  · exact ⟨.busBusy, rfl, rfl⟩
  · exact ⟨.notPresent, rfl, rfl⟩
  · exact ⟨.badStart, rfl, rfl⟩
  · exact ⟨.syncTimeout, rfl, rfl⟩
  · exact ⟨.dataTimeout, rfl, rfl⟩

theorem busyTick_ackHigh {s : State} (hs : s.st = .ackHigh) : busyTick s = tickAckHigh s := by
  simp only [busyTick, hs]

theorem busyTick_bitHigh {s : State} (hs : s.st = .bitHigh) : busyTick s = tickBitHigh s := by
  simp only [busyTick, hs]

/-- A pure wait ends at its level. -/
theorem busyTick_of_met {row : WaitRow} (hrow : row ∈ pureWaits) {s : State} (hs : s.st = row.state)
    (hl : s.now.sdaIn = row.level) : busyTick s = s.elapse.goto row.next := by
  obtain ⟨e, _, h⟩ := busyTick_pureWait hrow hs
  rw [h]
  exact if_pos hl

/-- A wait counts at the other level up to its limit. -/
theorem busyTick_of_not_met {row : WaitRow} (hrow : row ∈ ackHighWait :: pureWaits) {s : State} (hs : s.st = row.state)
    (hl : s.now.sdaIn ≠ row.level) (ht : s.tmr.toNat ≤ row.limit) : busyTick s = s.elapse.count := by
  rcases List.mem_cons.mp hrow with rfl | hrow
  · rw [busyTick_ackHigh hs]
    exact (if_neg hl).trans ((if_neg hl).trans (if_neg ht.not_gt))
  · obtain ⟨e, _, h⟩ := busyTick_pureWait hrow hs
    rw [h, timedWait, if_neg hl, if_neg ht.not_gt]

section waits

variable {row : WaitRow} {c : State} {n k : Nat} {l : Level}

/-- No wait is Idle, and none is longer than AwaitIdle. -/
theorem wait_busy_and_limit_le (hrow : row ∈ ackHighWait :: pureWaits) : row.state ≠ .idle ∧ row.limit ≤ 250 := by
  revert row; decide

/-- While a wait sees the other level it counts. -/
theorem leadsTo_wait_counts (hrow : row ∈ ackHighWait :: pureWaits) (hc : c.st = row.state) (hl : l ≠ row.level)
    (hk : n + k ≤ row.limit + 1) : LeadsTo (At c n) (List.replicate k l) (At c (n + k)) := by
  obtain ⟨hidle, hlimit⟩ := wait_busy_and_limit_le hrow
  have h := leadsTo_counts (c := c) (n := n) (ls := List.replicate k l) fun m _ hm l' hl' =>
    leadsTo_tick (hc ▸ hidle) fun s hs hline => by
      rw [List.length_replicate] at hm
      rw [List.eq_of_mem_replicate hl'] at hline
      rw [busyTick_of_not_met hrow (hs.st.trans hc) (hline ▸ hl) (by rw [hs.tmr]; omega)]
      exact hs.count (by omega)
  rwa [List.length_replicate] at h

/-- A pure wait that sees its level enters the next state. -/
theorem leadsTo_wait_met (hrow : row ∈ pureWaits) (hc : c.st = row.state) :
    LeadsTo (At c n) [row.level] (At (c.goto row.next) 0) :=
  leadsTo_tick (hc ▸ (wait_busy_and_limit_le (List.mem_cons_of_mem _ hrow)).1) fun s hs hl => by
    rw [busyTick_of_met hrow (hs.st.trans hc) hl]
    exact hs.goto row.next

/-- A pure wait through the other level to its own. -/
theorem leadsTo_wait {x next : St} {l' : Level} {limit : Nat} {code : BitVec 4}
    (hrow : ⟨x, l', limit, code, next⟩ ∈ pureWaits) (hc : c.st = x) (hl : l ≠ l') (hk : k ≤ limit + 1) :
    LeadsTo (At c 0) (List.replicate k l ++ [l']) (At (c.goto next) 0) :=
  (leadsTo_wait_counts (List.mem_cons_of_mem _ hrow) hc hl (by rwa [Nat.zero_add])).append (leadsTo_wait_met hrow hc)

/-- AckHigh through Low to High, where it clears `BITI` (R120). -/
theorem leadsTo_ackHigh (hc : c.st = .ackHigh) (hk : k ≤ 101) :
    LeadsTo (At c 0) (List.replicate k Level.low ++ [Level.high]) (At ((c.withBits c.pt 0).goto .bitSync) 0) := by
  have hlow : Level.low ≠ ackHighWait.level := nofun
  refine (leadsTo_wait_counts List.mem_cons_self hc hlow (by rwa [Nat.zero_add])).append ?_
  refine leadsTo_tick (by simp [hc]) fun s hs hl => ?_
  rw [busyTick_ackHigh (hs.st.trans hc), tickAckHigh, if_pos hl]
  exact ⟨congrArg (fun u : State => { u with st := .bitSync, biti := 0 }) hs.untimed, rfl⟩

end waits

/-! ### The start signal (R116, R117) -/

/-- StartLow counts for 17999 ticks, whatever the line shows. -/
theorem leadsTo_startLow_counts {c : State} (hc : c.st = .startLow) {ls : List Level} (hls : ls.length = 17999) :
    LeadsTo (At c 0) ls (At c 17999) := by
  have h := leadsTo_counts (c := c) (n := 0) (ls := ls) fun m _ hm l _ =>
    leadsTo_tick (by simp [hc]) fun s hs _ => by
      rcases hold_cases Config.tStartLow .startHigh s with ⟨ht, _⟩ | ⟨_, h⟩
      · rw [hs.tmr, tStartLow_value] at ht; omega
      · simp only [busyTick, hs.st, hc, tickStartLow, h]
        exact hs.count (by omega)
  rwa [hls] at h

/-- The start signal takes 18000 ticks of StartLow and one of StartHigh, whatever the line shows. -/
theorem leadsTo_startSignal {c : State} (hc : c.st = .startLow) {ls : List Level} (hls : ls.length = 18001) :
    LeadsTo (At c 0) ls (At (c.goto .awaitAck) 0) := by
  have htake : (ls.take 17999).length = 17999 := by rw [List.length_take]; omega
  have hdrop : (ls.drop 17999).length = 2 := by rw [List.length_drop]; omega
  obtain ⟨l, l', hlast⟩ := List.length_eq_two.mp hdrop
  rw [← List.take_append_drop 17999 ls, hlast]
  have hlow : LeadsTo (At c 17999) [l] (At (c.goto .startHigh) 0) :=
    leadsTo_tick (by simp [hc]) fun s hs _ => by
      simp only [busyTick, hs.st, hc, tickStartLow, hold, tStartLow_value, hs.tmr]
      exact hs.goto .startHigh
  have hhigh : LeadsTo (At (c.goto .startHigh) 0) [l'] (At (c.goto .awaitAck) 0) :=
    leadsTo_tick nofun fun s hs _ => by
      simp only [busyTick, hs.st, tickStartHigh, hold, tStartHigh_value, hs.tmr]
      exact hs.goto .awaitAck
  exact (leadsTo_startLow_counts hc htake).append (hlow.cons hhigh)

/-! ### A bit cell (R122, R123, R126) -/

/-- BitHigh counts the High run. -/
theorem leadsTo_bitHigh_counts {c : State} (hc : c.st = .bitHigh) {k : Nat} (hk : k ≤ 101) :
    LeadsTo (At c 0) (List.replicate k Level.high) (At c k) := by
  have h := leadsTo_counts (c := c) (n := 0) (ls := List.replicate k Level.high) fun m _ hm l hl =>
    leadsTo_tick (by simp [hc]) fun s hs hline => by
      rw [List.length_replicate] at hm
      rw [List.eq_of_mem_replicate hl] at hline
      rw [busyTick_bitHigh (hs.st.trans hc)]
      rcases tickBitHigh_cases s with ⟨hlow, _⟩ | ⟨_, ht, _⟩ | ⟨_, _, h⟩
      · exact absurd (hline.symm.trans hlow) nofun
      · rw [hs.tmr] at ht; omega
      · rw [h]; exact hs.count (by omega)
  rwa [List.length_replicate, Nat.zero_add] at h

/-- `PT` after the capture of a High phase in which `n` ticks were counted. -/
def State.ptWith (c : State) (n : Nat) : Vector Byte 40 := c.pt.setIfInBounds c.biti.toNat (BitVec.ofNat 8 n)

/-- What a capture writes is the time BitHigh has counted. -/
theorem At.ptWith {c s : State} {n : Nat} (h : At c n s) :
    s.pt.setIfInBounds s.biti.toNat (s.tmr.extractLsb' 0 8) = c.ptWith n := by
  have hlow : s.tmr.extractLsb' 0 8 = BitVec.ofNat 8 n := by rw [← h.tmr]; rfl
  rw [State.ptWith, h.pt, h.biti, hlow]

/-- At Low, BitHigh captures bit 39 and enters Decode. -/
theorem leadsTo_capture_last {c : State} (hc : c.st = .bitHigh) (hb : c.biti.toNat = 39) (n : Nat) :
    LeadsTo (At c n) [Level.low] (At ((c.withBits (c.ptWith n) c.biti).goto .decode) 0) := by
  refine leadsTo_tick (by simp [hc]) fun s hs hl => ?_
  rw [busyTick_bitHigh (hs.st.trans hc), tickBitHigh, if_pos hl]
  rcases capturePulse_cases s with ⟨_, h⟩ | ⟨hb', _⟩
  · rw [h, hs.ptWith]
    exact ⟨congrArg (fun u : State => { u with st := .decode, pt := c.ptWith n }) hs.untimed, rfl⟩
  · exact absurd (hs.biti ▸ hb) hb'

/-- At Low, BitHigh captures an earlier bit and enters the next one's BitSync. -/
theorem leadsTo_capture_next {c : State} (hc : c.st = .bitHigh) (hb : c.biti.toNat ≠ 39) (n : Nat) :
    LeadsTo (At c n) [Level.low] (At ((c.withBits (c.ptWith n) (c.biti + 1)).goto .bitSync) 0) := by
  refine leadsTo_tick (by simp [hc]) fun s hs hl => ?_
  rw [busyTick_bitHigh (hs.st.trans hc), tickBitHigh, if_pos hl]
  rcases capturePulse_cases s with ⟨hb', _⟩ | ⟨_, h⟩
  · exact absurd (hs.biti ▸ hb') hb
  · rw [h, hs.ptWith, hs.biti]
    exact ⟨congrArg (fun u : State => { u with st := .bitSync, pt := c.ptWith n, biti := c.biti + 1 }) hs.untimed, rfl⟩

/-- What BitSync sees of a cell: `h` High ticks of the phase before, `a` Low ticks, the High phase of the bit, and the Low
tick that ends it. -/
def cellLevels (h a : Nat) (b : Bool) : List Level :=
  List.replicate h Level.high ++ List.replicate a Level.low ++ List.replicate (highTicks b) Level.high ++ [Level.low]

/-- BitSync, BitRise and BitHigh take a cell up to the last tick of its High phase of `m` ticks. -/
theorem leadsTo_cell {c : State} (hc : c.st = .bitSync) {h a m : Nat} (hh : h ≤ 101) (ha : 1 ≤ a ∧ a ≤ 102)
    (hm : 1 ≤ m ∧ m ≤ 102) :
    LeadsTo (At c 0) (List.replicate h Level.high ++ List.replicate a Level.low ++ List.replicate m Level.high)
      (At (c.goto .bitHigh) (m - 1)) := by
  obtain ⟨a, rfl⟩ : ∃ k, a = k + 1 := ⟨a - 1, by omega⟩
  obtain ⟨m, rfl⟩ : ∃ k, m = k + 1 := ⟨m - 1, by omega⟩
  have hsync : LeadsTo (At c 0) (List.replicate h Level.high ++ [Level.low]) (At (c.goto .bitRise) 0) :=
    leadsTo_wait (x := .bitSync) (limit := 100) (code := 5) (by decide) hc nofun hh
  have hrise : LeadsTo (At (c.goto .bitRise) 0) (List.replicate a Level.low ++ [Level.high]) (At (c.goto .bitHigh) 0) :=
    leadsTo_wait (x := .bitRise) (limit := 100) (code := 6) (by decide) rfl nofun (by omega)
  have hhigh : LeadsTo (At (c.goto .bitHigh) 0) (List.replicate m Level.high) (At (c.goto .bitHigh) m) :=
    leadsTo_bitHigh_counts rfl (by omega)
  simpa [List.replicate_succ] using (hsync.append hrise).append hhigh

/-! ### Forty bits (R63, R128) -/

/-- The first pulses of `pt` are wide where `bs` is 1 and narrow where it is 0. -/
def Received (bs : List Bool) (pt : Vector Byte 40) : Prop :=
  ∀ (i : Fin 40) (b : Bool), bs[i.val]? = some b → (38 ≤ pt[i].toNat ↔ b = true)

/-- The High phases of the model sensor are captured on their sides of the threshold (R98, R128). -/
theorem threshold_highTicks (b : Bool) : 38 ≤ (BitVec.ofNat 8 (highTicks b - 1)).toNat ↔ b = true := by
  cases b <;> decide

/-- A capture adds its bit to the bits received. -/
theorem Received.capture {c : State} {ds : List Bool} (h : Received ds c.pt) (hb : c.biti.toNat = ds.length) (b : Bool) :
    Received (ds ++ [b]) (c.ptWith (highTicks b - 1)) := by
  intro i b' hi
  have hget : (c.ptWith (highTicks b - 1))[i] =
      if ds.length = i.val then BitVec.ofNat 8 (highTicks b - 1) else c.pt[i] := by
    simp [State.ptWith, hb, Vector.getElem_setIfInBounds]
  rw [hget]
  split
  case isTrue heq =>
    rw [← heq, List.getElem?_concat_length, Option.some.injEq] at hi
    rw [← hi, threshold_highTicks]
  case isFalse hne =>
    refine h i b' ?_
    rw [List.getElem?_append] at hi
    split at hi
    · exact hi
    · rw [List.getElem?_singleton, if_neg (by omega)] at hi
      exact absurd hi nofun

theorem highTicks_bounds (b : Bool) : 1 ≤ highTicks b ∧ highTicks b ≤ 102 := by
  cases b <;> decide

/-- The cells from bit `ds.length` to bit 39, the first with Low and High phases of its own: each bit is captured, and the
last capture leads to Decode. -/
theorem leadsTo_bits {c : State} (hc : c.st = .bitSync) {ds : List Bool} (hb : c.biti.toNat = ds.length)
    (hrec : Received ds c.pt) {b : Bool} {bs : List Bool} (hlen : ds.length + bs.length = 39) {h a : Nat} (hh : h ≤ 101)
    (ha : 1 ≤ a ∧ a ≤ 102) :
    LeadsTo (At c 0) (cellLevels h a b ++ bs.flatMap (cellLevels 0 49)) fun t =>
      ∃ (pt : Vector Byte 40) (i : BitVec 6), Received (ds ++ b :: bs) pt ∧
        At ((c.withBits pt i).goto .decode) 0 t := by
  have hcell := leadsTo_cell hc hh ha (highTicks_bounds b)
  induction bs generalizing c ds b h a with
  | nil =>
    have hlast := hcell.append (leadsTo_capture_last (c := c.goto .bitHigh) rfl (hb.trans hlen) _)
    rw [List.flatMap_nil, List.append_nil]
    intro s hs hsee
    obtain ⟨t, hrun, ht⟩ := hlast s hs hsee
    exact ⟨t, hrun, _, _, hrec.capture hb b, ht⟩
  | cons b' bs ih =>
    rw [List.length_cons] at hlen
    have hne : c.biti.toNat ≠ 39 := by omega
    have hnext := hcell.append (leadsTo_capture_next (c := c.goto .bitHigh) rfl hne _)
    have hbiti : (c.biti + 1).toNat = (ds ++ [b]).length := by
      rw [biti_succ_toNat (by omega), hb, List.length_append, List.length_singleton]
    have hlen' : (ds ++ [b]).length + bs.length = 39 := by
      rw [List.length_append, List.length_singleton]; omega
    have hrest := ih (c := (c.withBits (c.ptWith (highTicks b - 1)) (c.biti + 1)).goto .bitSync) rfl hbiti
      (hrec.capture hb b) (b := b') hlen' (h := 0) (a := 49) (by decide) (by decide)
      (leadsTo_cell rfl (by decide) (by decide) (highTicks_bounds b'))
    rw [List.append_assoc, List.singleton_append] at hrest
    exact hnext.append hrest

/-! ### Decode and Check (R129, R189) -/

/-- Decode packs the pulses. -/
theorem leadsTo_decode {c : State} (hc : c.st = .decode) {f : Frame} (hf : assembleFrame c.pt = f) (l : Level) :
    LeadsTo (At c 0) [l] (At ((c.withWork c.pt f c.family).goto .check) 0) := by
  refine leadsTo_tick (by simp [hc]) fun s hs _ => ?_
  simp only [busyTick, hs.st, hc, tickDecode, hs.pt, hf]
  exact ⟨congrArg (fun u : State => { u with st := .check, frame := f }) hs.untimed, rfl⟩

/-- `t` is Idle after a transaction that began in `s` and received `f`: with a good checksum the reading is committed and
Success answered, else the results of `s` are kept and ChecksumMismatch answered. -/
def State.Delivers (s : State) (f : Frame) (t : State) : Prop :=
  t.st = .idle ∧ t.frame = f ∧ t.family = s.family ∧
    (checksumOk f = true → t.rsp = ⟨true, 0, true, 0⟩ ∧ t.raw = f ∧ t.valid = true ∧
      t.temp.toInt = convertTemp s.family f ∧ t.hum.toNat = convertHum s.family f) ∧
    (checksumOk f = false → t.rsp = ⟨true, 7, s.valid, 0⟩ ∧ t.raw = s.raw ∧ t.valid = s.valid ∧
      t.temp = s.temp ∧ t.hum = s.hum)

/-- Check delivers the frame. -/
theorem leadsTo_check {c : State} (hc : c.st = .check) (l : Level) :
    LeadsTo (At c 0) [l] (c.Delivers c.frame) := by
  refine leadsTo_tick (by simp [hc]) fun s hs _ => ?_
  have htick : busyTick s = tickCheck s := by simp only [busyTick, hs.st, hc]
  rw [htick, ← hs.frame, State.Delivers, ← hs.family, ← hs.raw, ← hs.temp, ← hs.hum, ← hs.valid]
  rcases tickCheck_cases s with ⟨hk, h⟩ | ⟨hk, h⟩ <;> rw [h]
  · obtain ⟨htemp, hhum⟩ := commit_readings s
    exact ⟨rfl, rfl, rfl, fun _ => ⟨rfl, rfl, rfl, htemp, hhum⟩, fun hbad => absurd (hk.symm.trans hbad) nofun⟩
  · exact ⟨rfl, rfl, rfl, fun hok => absurd (hk.symm.trans hok) nofun, fun _ => ⟨rfl, rfl, rfl, rfl, rfl⟩⟩

/-! ### The model sensor (R98) -/

/-- The levels of the model sensor up to the tick of Check: of its last Low phase the block runs through three ticks. -/
def heardLevels (f : Frame) : List Level :=
  List.replicate 30 Level.high ++ List.replicate 80 Level.low ++ List.replicate 80 Level.high ++
    waveLevels ((frameBits f).flatMap bitCell) ++ List.replicate 3 Level.low

theorem waveLevels_cons (l : Level) (n : Nat) (w : Waveform) :
    waveLevels ((l, n) :: w) = List.replicate n l ++ waveLevels w := rfl

theorem waveLevels_append (v w : Waveform) : waveLevels (v ++ w) = waveLevels v ++ waveLevels w := List.flatMap_append

theorem waveLevels_sensor (f : Frame) : waveLevels (sensor f) = heardLevels f ++ List.replicate 47 Level.low := by
  have hlow : List.replicate 50 Level.low = List.replicate 3 Level.low ++ List.replicate 47 Level.low := by
    rw [← List.replicate_add]
  have hnil : waveLevels [] = [] := rfl
  simp only [sensor, heardLevels, waveLevels_append, waveLevels_cons, hnil, hlow, List.append_assoc, List.append_nil]

/-- How long the cells of a list of bits last. -/
theorem length_bitCells (bs : List Bool) :
    (waveLevels (bs.flatMap bitCell)).length = 50 * bs.length + 27 * bs.count false + 70 * bs.count true := by
  induction bs with
  | nil => rfl
  | cons b bs ih =>
    rw [List.flatMap_cons, waveLevels_append, List.length_append, ih]
    cases b <;> simp [bitCell, waveLevels, highTicks] <;> omega

@[simp] theorem length_frameBits (f : Frame) : (frameBits f).length = 40 := by
  rw [frameBits, List.length_map, List.length_range]

theorem length_heardLevels (f : Frame) : (heardLevels f).length =
    193 + 50 * 40 + 27 * (frameBits f).count false + 70 * (frameBits f).count true := by
  simp only [heardLevels, List.length_append, List.length_replicate, length_bitCells, length_frameBits]
  omega

/-- The cells of the sensor, cut where the block cuts them: after the first Low tick of each. -/
theorem bitCells_append_low (bs : List Bool) (rest : List Level) :
    waveLevels (bs.flatMap bitCell) ++ .low :: rest = .low :: (bs.flatMap (cellLevels 0 49) ++ rest) := by
  induction bs with
  | nil => rfl
  | cons b bs ih =>
    have hlow : List.replicate 50 Level.low = .low :: List.replicate 49 Level.low := rfl
    simp only [List.flatMap_cons, bitCell, waveLevels_cons, hlow, cellLevels, List.replicate_zero, List.append_assoc,
      List.cons_append, List.nil_append, ih]

/-- The sensor's levels, cut where the block changes its state. -/
theorem heardLevels_eq {f : Frame} {b : Bool} {bs : List Bool} (hbits : frameBits f = b :: bs) :
    heardLevels f = [Level.high] ++ (List.replicate 29 Level.high ++ [Level.low]) ++
      (List.replicate 79 Level.low ++ [Level.high]) ++ (cellLevels 79 50 b ++ bs.flatMap (cellLevels 0 49)) ++
      [Level.low, Level.low] := by
  have h30 : List.replicate 30 Level.high = .high :: List.replicate 29 Level.high := rfl
  have h80 : ∀ l : Level, List.replicate 80 l = l :: List.replicate 79 l := fun _ => rfl
  have h3 : List.replicate 3 Level.low = [.low, .low, .low] := rfl
  simp only [heardLevels, hbits, List.flatMap_cons, bitCell, waveLevels_cons, h30, h80, h3, cellLevels,
    List.append_assoc, List.cons_append, List.nil_append, bitCells_append_low]

/-- From AwaitAck on the sensor's frame is received and delivered. -/
theorem leadsTo_delivery {c : State} (hc : c.st = .awaitAck) (f : Frame) :
    LeadsTo (At c 0) (heardLevels f) (c.Delivers f) := by
  obtain ⟨b, bs, hbits⟩ : ∃ b bs, frameBits f = b :: bs := ⟨_, _, rfl⟩
  have hlen : bs.length = 39 := by
    rw [← Nat.add_right_cancel_iff (n := 1), ← List.length_cons (a := b), ← hbits, length_frameBits]
  have hack : LeadsTo (At c 0) [Level.high] (At (c.goto .ackLow) 0) :=
    leadsTo_wait (x := .awaitAck) (l := .low) (limit := 60) (code := 3) (k := 0) (by decide) hc nofun (by decide)
  have hackLow : LeadsTo (At (c.goto .ackLow) 0) (List.replicate 29 Level.high ++ [Level.low]) (At (c.goto .ackHigh) 0) :=
    leadsTo_wait (x := .ackLow) (limit := 100) (code := 4) (by decide) rfl nofun (by decide)
  have hackHigh : LeadsTo (At (c.goto .ackHigh) 0) (List.replicate 79 Level.low ++ [Level.high])
      (At ((c.withBits c.pt 0).goto .bitSync) 0) := leadsTo_ackHigh rfl (by decide)
  have hbegin := (hack.append hackLow).append hackHigh
  have hreceive := leadsTo_bits (c := (c.withBits c.pt 0).goto .bitSync) (ds := []) (b := b) rfl rfl nofun
    ((Nat.zero_add _).trans hlen) (h := 79) (a := 50) (by decide) (by decide)
  rw [heardLevels_eq hbits]
  refine (hbegin.append hreceive).append ?_
  rintro s ⟨pt, i, hpt, hs⟩ hsee
  have hframe : assembleFrame pt = f := by
    refine pulsesPackIntoTheSentFrame f pt fun i => hpt i _ ?_
    rw [List.nil_append, ← hbits]
    simp [frameBits]
  have hend := (leadsTo_decode (c := (c.withBits pt i).goto .decode) rfl hframe .low).append (leadsTo_check rfl .low)
  exact hend s hs hsee

/-- An accepted READ enters AwaitIdle. -/
theorem leadsTo_accepted (c : State) (l : Level) :
    LeadsTo (fun s => s.accepts ∧ s = c) [l] (At (c.goto .awaitIdle) 0) := by
  rintro s ⟨⟨hr, hs, hv, hw, hl⟩, rfl⟩ _
  refine ⟨{ s.elapse.goto .awaitIdle with since := 1 }, runTicks_succ 0 s _ ?_, rfl, rfl⟩
  rw [step_idle s hr hs, idleWith_instr exec s .read hv ((decode_eq_read_iff _).mpr hw)]
  exact if_neg hl.not_gt

/-- The scheduled inputs are seen if none of them is a reset. -/
theorem sees_of_inputs {s : State} {is rest : List Inputs} (h : s.inputs = is ++ rest) (hr : ∀ i ∈ is, i.rst = false) :
    s.Sees (is.map Inputs.sdaIn) := by
  intro j l hj
  rw [List.getElem?_map, Option.map_eq_some_iff] at hj
  obtain ⟨i, hi, hl⟩ := hj
  have hnow : s.inputAt j = i := by
    rw [State.inputAt, h, List.getElem?_append_left (List.getElem?_eq_some_iff.mp hi).1, hi, Option.getD_some]
  rw [hnow]
  exact ⟨hr i (List.mem_of_getElem? hi), hl⟩

/-- Settles O48: the READ is accepted, the line is idle, the start signal runs, and what the sensor sends is delivered. -/
theorem sensorFrameIsDelivered : Obligations.SensorFrameIsDelivered := by
  intro s f pre wave rest ha hinputs hpre hr hidle hwave
  obtain ⟨l, ls, hline, hls⟩ : ∃ l ls, pre.map Inputs.sdaIn = l :: .high :: ls ∧ ls.length = 18001 := by
    obtain ⟨i, is, rfl⟩ := List.exists_cons_of_length_eq_add_one hpre
    obtain ⟨i', is', rfl⟩ := List.exists_cons_of_length_eq_add_one (Nat.succ.inj hpre)
    refine ⟨i.sdaIn, is'.map Inputs.sdaIn, ?_, ?_⟩
    · simpa using hidle
    · simpa using hpre
  have hsee := sees_of_inputs hinputs hr
  rw [List.map_append, hline, hwave, waveLevels_sensor, ← List.append_assoc] at hsee
  have hwait : LeadsTo (At (s.goto .awaitIdle) 0) [Level.high] (At (s.goto .startLow) 0) :=
    leadsTo_wait (x := .awaitIdle) (l := .low) (limit := 250) (code := 2) (k := 0) (by decide) rfl nofun (by decide)
  have hstart : LeadsTo (At (s.goto .startLow) 0) ls (At (s.goto .awaitAck) 0) :=
    leadsTo_startSignal rfl hls
  obtain ⟨t, hrun, ht⟩ := ((leadsTo_accepted s l).cons (hwait.cons hstart)).append (leadsTo_delivery rfl f) s ⟨ha, rfl⟩
    hsee.left
  refine ⟨t, ?_, ht⟩
  rw [← hrun, List.length_append, length_heardLevels, List.length_cons, List.length_cons, hls]
  congr 1
  omega

end Sys2Proof.Machine

/-! The protocol decoder tick by tick, each rule with its whole next state (R111 to R129); and over many ticks, how long
a wait, the start signal and a bit cell last (R114, R116, R117, R127). -/

namespace Sys2Proof.Machine

/-! ### Idle and the start states -/

/-- Settles O6: the two forms of an Idle tick that are not a reserved word's. -/
theorem stepRunsTheDecodedCommand : Obligations.StepRunsTheDecodedCommand := by
  intro s hr hs
  rw [step_idle s hr hs]
  refine ⟨fun i hc hd => idleWith_instr exec s i hc hd, fun hc => ?_⟩
  rw [idleWith_quiet exec s hc]
  rfl

theorem busyTick_startLow {s : State} (hs : s.st = .startLow) : busyTick s = hold 18000 .startHigh s := by
  simp only [busyTick, hs]
  rfl

theorem busyTick_startHigh {s : State} (hs : s.st = .startHigh) : busyTick s = hold 1 .awaitAck s := by
  simp only [busyTick, hs]
  rfl

/-- A hold ends at its last tick. -/
theorem hold_of_last {n : Nat} {x : St} {s : State} (ht : s.tmr.toNat = n - 1) : hold n x s = s.elapse.goto x :=
  if_pos ht

/-- A hold counts at every other tick. -/
theorem hold_of_not_last {n : Nat} {x : St} {s : State} (ht : s.tmr.toNat ≠ n - 1) : hold n x s = s.elapse.count :=
  if_neg ht

/-- Settles O23: the two start states are holds of 18000 ticks and of one. -/
theorem startStatesHold : Obligations.StartStatesHold := by
  intro s hr
  refine ⟨fun hs ht => ?_, fun hs ht => ?_, fun hs ht => ?_⟩ <;> rw [step_busy s hr (by rw [hs]; nofun)]
  · rw [busyTick_startLow hs, hold_of_last ht]; rfl
  · rw [busyTick_startLow hs, hold_of_not_last ht]; rfl
  · rw [busyTick_startHigh hs, hold_of_last (by rw [ht]; rfl)]; rfl

/-! ### One tick of a wait -/

section wait

variable {row : WaitRow} {s : State}

/-- No wait leads to Idle when it succeeds. -/
theorem wait_next_ne_idle (hrow : row ∈ ackHighWait :: pureWaits) : row.next ≠ .idle := by
  revert row; decide

/-- A tick of a wait is its rule. -/
theorem step_wait (hrow : row ∈ ackHighWait :: pureWaits) (hr : s.now.rst = false) (hs : s.st = row.state) :
    step s = .next (busyTick s) :=
  step_busy s hr (hs ▸ (wait_busy_and_limit_le hrow).1)

/-- A wait past its limit at the other level takes the error exit with the code of its row (R113, R213). -/
theorem busyTick_of_failed (hrow : row ∈ ackHighWait :: pureWaits) (hs : s.st = row.state)
    (hl : s.now.sdaIn ≠ row.level) (ht : row.limit < s.tmr.toNat) :
    busyTick s = { s.onlyTicks ⟨true, row.code, s.valid, 0⟩ with st := .idle, tmr := 0 } := by
  rcases List.mem_cons.mp hrow with rfl | hrow
  · rw [busyTick_ackHigh hs]
    exact (if_neg hl).trans ((if_neg hl).trans (if_pos ht))
  · obtain ⟨e, he, h⟩ := busyTick_pureWait hrow hs
    rw [h, timedWait, if_neg hl, if_pos ht, raiseError_eq, he]

/-- AckHigh at High enters BitSync and clears `BITI` (R120). -/
theorem busyTick_of_ackHigh_met (hs : s.st = .ackHigh) (hl : s.now.sdaIn = .high) :
    busyTick s = { s.elapse.goto .bitSync with biti := 0 } := by
  rw [busyTick_ackHigh hs]
  exact if_pos hl

/-- A wait that sees its level enters the next state of its row, whatever else it writes. -/
theorem busyTick_met_st_tmr (hrow : row ∈ ackHighWait :: pureWaits) (hs : s.st = row.state)
    (hl : s.now.sdaIn = row.level) : (busyTick s).st = row.next ∧ (busyTick s).tmr = 0 := by
  rcases List.mem_cons.mp hrow with rfl | hrow
  · rw [busyTick_of_ackHigh_met hs hl]
    exact ⟨rfl, rfl⟩
  · rw [busyTick_of_met hrow hs hl]
    exact ⟨rfl, rfl⟩

end wait

/-- Settles O21: the three ends of a pure wait's tick. -/
theorem waitingStatesFollowTheTimedWait : Obligations.WaitingStatesFollowTheTimedWait := by
  intro row hrow s hr hs
  have hwait : row ∈ ackHighWait :: pureWaits := List.mem_cons_of_mem _ hrow
  rw [step_wait hwait hr hs]
  refine ⟨fun hl => ?_, fun hl ht => ?_, fun hl ht => ?_⟩
  · rw [busyTick_of_met hrow hs hl]; rfl
  · rw [busyTick_of_failed hwait hs hl ht]
  · rw [busyTick_of_not_met hwait hs hl ht]; rfl

/-- Settles O22: AckHigh ends as a wait does, but for `BITI` when it succeeds. -/
theorem ackHighClearsTheBitIndex : Obligations.AckHighClearsTheBitIndex := by
  intro s hr hs
  have hwait : ackHighWait ∈ ackHighWait :: pureWaits := List.mem_cons_self
  have hother (hl : s.now.sdaIn = .low) : s.now.sdaIn ≠ ackHighWait.level := hl ▸ nofun
  rw [step_wait hwait hr hs]
  refine ⟨fun hl => ?_, fun hl ht => ?_, fun hl ht => ?_⟩
  · rw [busyTick_of_ackHigh_met hs hl]; rfl
  · rw [busyTick_of_failed hwait hs (hother hl) ht]; rfl
  · rw [busyTick_of_not_met hwait hs (hother hl) ht]; rfl

/-! ### One tick of BitHigh and of Decode -/

/-- A capture writes `PT[BITI]` and leaves the other entries (R126). -/
theorem ptWith_getElem? {c : State} (hb : c.bitiInRange) (n j : Nat) :
    (c.ptWith n)[j]? = if j = c.biti.toNat then some (BitVec.ofNat 8 n) else c.pt[j]? := by
  have hlt : c.biti.toNat < 40 := Nat.lt_succ_of_le hb
  rw [State.ptWith, Vector.getElem?_setIfInBounds]
  by_cases hj : j = c.biti.toNat
  · rw [if_pos hj, if_pos hj.symm, if_pos hlt]
  · rw [if_neg hj, if_neg (Ne.symm hj)]

/-- What BitHigh writes into `PT` is the time it has counted. -/
theorem capturePulse_pt (s : State) : (capturePulse s).pt = s.ptWith s.tmr.toNat := by
  have hpulse := At.ptWith (c := s) (s := s) ⟨rfl, rfl⟩
  rcases capturePulse_cases s with ⟨_, h⟩ | ⟨_, h⟩ <;> rw [h] <;> exact hpulse

/-- Settles O24: a capture with its two ends, the error exit, or a count. -/
theorem bitHighCapturesThePulse : Obligations.BitHighCapturesThePulse := by
  intro s hr hs hb
  have hother (hl : s.now.sdaIn = .high) : s.now.sdaIn ≠ .low := hl ▸ nofun
  rw [step_busy s hr (by rw [hs]; nofun), busyTick_bitHigh hs, tickBitHigh, tData_value]
  refine ⟨fun hl => ⟨capturePulse s, by rw [if_pos hl], fun j _ => ?_, fun h39 => ?_, fun hlt => ?_⟩,
    fun hl ht => ?_, fun hl ht => ?_⟩
  · rw [capturePulse_pt, ptWith_getElem? hb]
  · rcases capturePulse_cases s with ⟨_, h⟩ | ⟨hne, _⟩
    · rw [h]; rfl
    · exact absurd h39 hne
  · rcases capturePulse_cases s with ⟨h39, _⟩ | ⟨_, h⟩
    · omega
    · rw [h]; rfl
  · rw [if_neg (hother hl), if_pos ht]; rfl
  · rw [if_neg (hother hl), if_neg (Nat.not_lt.mpr ht)]; rfl

/-- Bit `39 - i` of the packed word is that of pulse `i`: pulse `i` is bit `7 - i % 8` of byte `i / 8` (R82, R129). -/
theorem assembleFrame_word_getLsbD (pt : Vector Byte 40) (i : Fin 40) :
    (assembleFrame pt).word.getLsbD (39 - i.val) = decide (38 ≤ pt[i].toNat) := by
  have hj : i.val / 8 < 5 := by omega
  have hm : 7 - i.val % 8 < 8 := by omega
  have hplace : 39 - i.val = 7 - i.val % 8 + 8 * (4 - i.val / 8) := by omega
  have hpulse : 8 * (i.val / 8) + (7 - (7 - i.val % 8)) = i.val := by omega
  rw [hplace, (assembleFrame pt).word_getLsbD ⟨i.val / 8, hj⟩ hm, assembleFrame_byte, frameByte_getLsbD pt hj hm]
  simp only [hpulse]
  rfl

/-- Settles O25: the frame is the packed one. -/
theorem decodePacksThresholdedBits : Obligations.DecodePacksThresholdedBits := by
  intro s hr hs
  refine ⟨assembleFrame s.pt, ?_, assembleFrame_word_getLsbD s.pt⟩
  rw [step_busy s hr (by rw [hs]; nofun)]
  simp only [busyTick, hs]
  rfl

/-! ### The line and the response port along a run -/

/-- Levels are seen that the line shows one after the other, with no reset. -/
theorem sees_of_getElem {s : State} {ls : List Level} (hr : s.noResetFor ls.length)
    (hl : ∀ (j : Nat) (h : j < ls.length), (s.inputAt j).sdaIn = ls[j]) : s.Sees ls := by
  intro j l hj
  obtain ⟨hlt, rfl⟩ := List.getElem?_eq_some_iff.mp hj
  exact ⟨hr j hlt, hl j hlt⟩

/-- One level shown for `k` ticks is seen. -/
theorem sees_replicate {s : State} {k : Nat} {l : Level} (hr : s.noResetFor k)
    (hl : ∀ j < k, (s.inputAt j).sdaIn = l) : s.Sees (List.replicate k l) :=
  sees_of_getElem (by rwa [List.length_replicate]) fun j hj => by
    rw [List.getElem_replicate]
    exact hl j (by rwa [List.length_replicate] at hj)

/-- The levels the line shows in the next `k` ticks. -/
def State.line (s : State) (k : Nat) : List Level := (List.range k).map fun j => (s.inputAt j).sdaIn

@[simp] theorem length_line (s : State) (k : Nat) : (s.line k).length = k := by simp [State.line]

/-- Whatever the line shows is seen. -/
theorem sees_line {s : State} {k : Nat} (hr : s.noResetFor k) : s.Sees (s.line k) :=
  sees_of_getElem (by rwa [length_line]) fun j hj => by simp [State.line]

/-- A run of `k + 1` ticks, by its last tick. -/
theorem runTicks_succ_last {k : Nat} {s t u : State} (h : runTicks k s = .next t) (ht : step t = .next u) :
    runTicks (k + 1) s = .next u := by
  rw [runTicks_add k 1 s t h, runTicks_succ 0 t u ht, runTicks_zero]

/-- A run's end sees this tick's inputs at that many ticks from the start. -/
theorem runTicks_now {k : Nat} {s t : State} (h : runTicks k s = .next t) : t.now = s.inputAt k := by
  rw [← inputAt_zero, runTicks_inputAt k s t h, Nat.add_zero]

/-- Every response is given in Idle or leads there (R213, R187): a step into a busy state is silent. -/
theorem step_silent_of_busy {s t : State} (h : step s = .next t) (ht : t.st ≠ .idle) : t.rsp.valid = false := by
  rcases step_reset_or_tickCase h with ⟨_, rfl⟩ | ⟨_, hc⟩
  · rfl
  · cases hc
    case reserved hs _ _ | rateLimited hs _ _ _ | query hs _ _ _ _ _ => exact absurd hs ht
    case waitFailed | bitHighFailed | committed | rejected => exact absurd rfl ht
    all_goals rfl

/-- A run that ends in a busy state ends in silence. -/
theorem runTicks_silent_of_busy {k : Nat} {s t : State} (hk : 1 ≤ k) (h : runTicks k s = .next t)
    (ht : t.st ≠ .idle) : t.rsp.valid = false := by
  obtain ⟨k, rfl⟩ := Nat.exists_eq_add_of_le' hk
  obtain ⟨u, _, hlast⟩ := runTicks_succ_last_inv k s t h
  exact step_silent_of_busy hlast ht

/-- A state stands where it is. -/
theorem At.refl {s : State} (ht : s.tmr = 0) : At s 0 s := ⟨rfl, by rw [ht]; rfl⟩

/-- A state just entered has `TMR` = 0. -/
theorem At.tmr_eq_zero {c s : State} (h : At c 0 s) : s.tmr = 0 := BitVec.eq_of_toNat_eq h.tmr

/-! ### How long a wait lasts (R114) -/

/-- Beside any level there is one other. -/
theorem exists_other_level : ∀ l : Level, ∃ l', l' ≠ l ∧ ∀ x, x ≠ l → x = l'
  | .low => ⟨.high, nofun, fun | .low, h => absurd rfl h | .high, _ => rfl⟩
  | .high => ⟨.low, nofun, fun | .low, _ => rfl | .high, h => absurd rfl h⟩

/-- A wait just entered that does not see its level has counted each tick, up to one past its limit. -/
theorem runTicks_wait {row : WaitRow} (hrow : row ∈ ackHighWait :: pureWaits) {s : State} {k : Nat}
    (hs : s.st = row.state) (ht : s.tmr = 0) (hr : s.noResetFor k) (hk : k ≤ row.limit + 1)
    (hl : ∀ j < k, (s.inputAt j).sdaIn ≠ row.level) : ∃ u, runTicks k s = .next u ∧ At s k u := by
  obtain ⟨l, hne, hother⟩ := exists_other_level row.level
  have h := leadsTo_wait_counts (n := 0) (k := k) hrow hs hne (by rwa [Nat.zero_add]) s (.refl ht)
    (sees_replicate hr fun j hj => hother _ (hl j hj))
  rwa [List.length_replicate, Nat.zero_add] at h

/-- Settles O45: the wait counts up to the sample in question, and the tick of that sample succeeds or fails. -/
theorem waitsEndWhereTheySay : Obligations.WaitsEndWhereTheySay := by
  intro row hrow s k hs ht hr hk hl
  have hbusy := (wait_busy_and_limit_le hrow).1
  have hcounts (j : Nat) (hj : j ≤ k) : ∃ u, runTicks j s = .next u ∧ At s j u :=
    runTicks_wait hrow hs ht (fun i hi => hr i (by omega)) (hj.trans hk) fun i hi => hl i (hi.trans_le hj)
  refine ⟨fun j hj hpos => ?_, ?_⟩
  · obtain ⟨u, hrun, hat⟩ := hcounts j hj
    have hst : u.st = row.state := hat.st.trans hs
    exact ⟨u, hrun, hst, hat.tmr, runTicks_silent_of_busy hpos hrun (hst ▸ hbusy)⟩
  · obtain ⟨u, hrun, hat⟩ := hcounts k le_rfl
    have hst : u.st = row.state := hat.st.trans hs
    have hnow : u.now = s.inputAt k := runTicks_now hrun
    have hlast := runTicks_succ_last hrun (step_wait hrow (hnow ▸ hr k k.lt_succ_self) hst)
    rw [← hnow]
    refine ⟨fun hmet => ⟨_, hlast, ?_⟩, fun hend hmiss => ⟨_, hlast, ?_⟩⟩
    · obtain ⟨hnext, htmr⟩ := busyTick_met_st_tmr hrow hst hmet
      exact ⟨hnext, htmr, runTicks_silent_of_busy (Nat.succ_pos k) hlast (hnext ▸ wait_next_ne_idle hrow)⟩
    · rw [busyTick_of_failed hrow hst hmiss (by rw [hat.tmr]; omega), hat.valid]
      exact ⟨rfl, rfl, rfl⟩

/-! ### How long the start signal lasts (R116, R117) -/

/-- StartLow counts at every tick before its last, whatever the line shows: for any such number of ticks what
`leadsTo_startLow_counts` says of all of them. -/
theorem leadsTo_startLow {c : State} (hc : c.st = .startLow) {ls : List Level} (hls : ls.length ≤ 17999) :
    LeadsTo (At c 0) ls (At c ls.length) := by
  have h := leadsTo_counts (c := c) (n := 0) (ls := ls) fun m _ hm l _ =>
    leadsTo_tick (by simp [hc]) fun s hs _ => by
      rw [busyTick_startLow (hs.st.trans hc), hold_of_not_last (by rw [hs.tmr]; omega)]
      exact hs.count (by omega)
  rwa [Nat.zero_add] at h

/-- Settles O46: each tick of StartLow but the last counts, the last one enters StartHigh, and the whole signal leads to
AwaitAck. -/
theorem startSignalLastsExactly : Obligations.StartSignalLastsExactly := by
  intro s hs ht hr
  have hcounts (j : Nat) (hj : j < 18000) : ∃ u, runTicks j s = .next u ∧ At s j u := by
    have h := leadsTo_startLow hs (ls := s.line j) (by rw [length_line]; omega) s (.refl ht)
      (sees_line fun i hi => hr i (by omega))
    rwa [length_line] at h
  refine ⟨fun j hj => ?_, ?_, ?_⟩
  · obtain ⟨u, hrun, hat⟩ := hcounts j hj
    exact ⟨u, hrun, hat.st.trans hs, hat.tmr⟩
  · obtain ⟨u, hrun, hat⟩ := hcounts 17999 (by omega)
    have hrst : u.now.rst = false := runTicks_now hrun ▸ hr 17999 (by omega)
    exact ⟨_, runTicks_succ_last hrun ((startStatesHold u hrst).1 (hat.st.trans hs) hat.tmr), rfl, rfl, rfl⟩
  · obtain ⟨u, hrun, hat⟩ := leadsTo_startSignal hs (length_line s 18001) s (.refl ht) (sees_line hr)
    rw [length_line] at hrun
    exact ⟨u, hrun, hat.st, hat.tmr_eq_zero, runTicks_silent_of_busy (by omega) hrun (hat.st ▸ nofun)⟩

/-! ### What a bit cell is captured as (R127) -/

/-- From any tick of BitSync on, a Low run and a High run lead to the last tick of the High run (`leadsTo_cell` begins
where BitSync is entered, this one where the Low run begins). -/
theorem leadsTo_cell_of_low {c : State} (hc : c.st = .bitSync) {n a m : Nat} (ha : 1 ≤ a ∧ a ≤ 102)
    (hm : 1 ≤ m ∧ m ≤ 102) :
    LeadsTo (At c n) (List.replicate a Level.low ++ List.replicate m Level.high) (At (c.goto .bitHigh) (m - 1)) := by
  obtain ⟨a, rfl⟩ := Nat.exists_eq_add_of_le' ha.1
  obtain ⟨m, rfl⟩ := Nat.exists_eq_add_of_le' hm.1
  have hsync : LeadsTo (At c n) [Level.low] (At (c.goto .bitRise) 0) :=
    leadsTo_wait_met (row := ⟨.bitSync, .low, 100, 5, .bitRise⟩) (by decide) hc
  have hrise : LeadsTo (At (c.goto .bitRise) 0) (List.replicate a Level.low ++ [Level.high]) (At (c.goto .bitHigh) 0) :=
    leadsTo_wait (x := .bitRise) (limit := 100) (code := 6) (by decide) rfl nofun (by omega)
  have hhigh : LeadsTo (At (c.goto .bitHigh) 0) (List.replicate m Level.high) (At (c.goto .bitHigh) m) :=
    leadsTo_bitHigh_counts rfl (by omega)
  simpa [List.replicate_succ] using (hsync.append hrise).append hhigh

/-- A pulse of width `n` is a 1 from the threshold on (R128). -/
theorem pulseBit_of_getElem? {pt : Vector Byte 40} {i n : Nat} (h : pt[i]? = some (BitVec.ofNat 8 n)) (hn : n < 256) :
    pulseBit pt i = if 38 ≤ n then 1 else 0 := by
  have hwidth : (BitVec.ofNat 8 n).toNat = n := Nat.mod_eq_of_lt hn
  rw [pulseBit, h, Option.getD_some, hwidth]
  rfl

/-- Settles O47: the two runs lead to the last tick of the High run, and the next tick is BitHigh's capture. -/
theorem bitCellIsCapturedAsItsHighRunLessOne : Obligations.BitCellIsCapturedAsItsHighRunLessOne := by
  intro s a m hs hb ha ha' hm hm' hr hlow hhigh hend
  have hlen : (List.replicate a Level.low ++ List.replicate m Level.high).length = a + m := by simp
  have hsee : s.Sees (List.replicate a Level.low ++ List.replicate m Level.high) := by
    refine sees_of_getElem (fun j hj => hr j (by omega)) fun j hj => ?_
    rw [List.getElem_append]
    split
    case isTrue h => rw [List.getElem_replicate]; exact hlow j (by simpa using h)
    case isFalse h => rw [List.getElem_replicate]; exact hhigh j (hlen ▸ hj) (by simpa using h)
  obtain ⟨u, hrun, hat⟩ := leadsTo_cell_of_low hs ⟨ha, ha'⟩ ⟨hm, hm'⟩ s ⟨rfl, rfl⟩ hsee
  rw [hlen] at hrun
  have hnow : u.now = s.inputAt (a + m) := runTicks_now hrun
  have hbiti : u.biti = s.biti := hat.biti
  have hrst : u.now.rst = false := hnow ▸ hr _ (Nat.lt_succ_self _)
  have hbu : u.bitiInRange := by rwa [State.bitiInRange, hbiti]
  obtain ⟨t, hstep, hpt, hlast, hnext⟩ := (bitHighCapturesThePulse u hrst hat.st hbu).1 (hnow ▸ hend)
  rw [hbiti] at hpt hlast hnext
  rw [hat.tmr, hat.pt] at hpt
  have hbit : t.pt[s.biti.toNat]? = some (BitVec.ofNat 8 (m - 1)) := by
    rw [hpt _ (Nat.lt_succ_of_le hb), if_pos rfl]
  obtain ⟨htmr, hbusy⟩ : t.tmr = 0 ∧ t.st ≠ .idle := by
    rcases Nat.eq_or_lt_of_le hb with h39 | hlt
    · rw [hlast h39]; exact ⟨rfl, nofun⟩
    · rw [hnext hlt]; exact ⟨rfl, nofun⟩
  refine ⟨t, runTicks_succ_last hrun hstep, htmr, step_silent_of_busy hstep hbusy, hpt, ?_, fun h39 => ?_,
    fun hlt => ?_⟩
  · rw [pulseBit_of_getElem? hbit (by omega)]
    congr 1
    exact propext (by omega)
  · rw [hlast h39]; exact ⟨rfl, hbiti⟩
  · rw [hnext hlt]; exact ⟨rfl, biti_succ_toNat hb⟩

end Sys2Proof.Machine

/-! The checksum validator in byte arithmetic (R150), and what it detects (R151). -/

namespace Sys2Proof.Machine

/-- A frame is valid when its checksum byte is the sum of the data bytes, carries dropped (R150). -/
theorem checksumOk_iff (f : Frame) :
    checksumOk f = true ↔
      f.checksum = f.humidityHigh + f.humidityLow + f.temperatureHigh + f.temperatureLow := by
  rw [checksumOk, beq_iff_eq, ← BitVec.toNat_inj]
  simp [dataSum, BitVec.toNat_add]

/-- Settles O28: the one valid checksum byte is the sum of the data bytes. -/
theorem exactlyOneChecksumByteIsValid : Obligations.ExactlyOneChecksumByteIsValid := by
  intro b0 b1 b2 b3
  exact ⟨b0 + b1 + b2 + b3, (checksumOk_iff _).mpr rfl, fun _ hd => (checksumOk_iff _).mp hd⟩

/-- A change of a valid frame is detected when it touches the checksum byte or the sum of the data bytes, and not
both. -/
theorem checksumOk_eq_false_of_changed {f g : Frame} (hf : checksumOk f = true)
    (hchanged : ¬(g.checksum = f.checksum ↔
      g.humidityHigh + g.humidityLow + g.temperatureHigh + g.temperatureLow =
        f.humidityHigh + f.humidityLow + f.temperatureHigh + f.temperatureLow)) :
    checksumOk g = false := by
  refine Bool.eq_false_iff.mpr fun hg => hchanged ?_
  rw [(checksumOk_iff f).mp hf, (checksumOk_iff g).mp hg]

/-- Settles O29: addition of bytes cancels, so another data byte changes the sum and leaves the checksum byte, and another
checksum byte leaves the sum. -/
theorem oneWrongByteIsDetected : Obligations.OneWrongByteIsDetected := by
  intro f b hf
  refine ⟨?humidityHigh, ?humidityLow, ?temperatureHigh, ?temperatureLow, ?checksum⟩
  all_goals exact fun hb => checksumOk_eq_false_of_changed hf (by simpa using hb)

end Sys2Proof.Machine

/-! The value converter in numbers: the response data of the temperature queries is exact (R166 to R169), and a DHT22
temperature is a sign and a magnitude (R164). -/

namespace Sys2Proof.Machine

/-! ### The temperature queries -/

/-- Any value below 2^20 in magnitude stands in the response data as itself (R169). -/
theorem sext40_toInt {v : Int} (hv : |v| < 2 ^ 20) : (sext40 v).toInt = v := by
  obtain ⟨hlow, hhigh⟩ := abs_lt.mp hv
  exact BitVec.toInt_ofInt_eq_self (by decide) (by omega) (by omega)

theorem answer_rsp_data {d : BitVec 40} {s t : State} (h : answer d s = .next t) : t.rsp.data = d := by
  obtain rfl := Host.Outcome.next.inj h
  rfl

/-- An answer below 2^20 in magnitude is read back exactly. -/
theorem answer_sext40_exact {v : Int} {s t : State} (hv : |v| < 2 ^ 20) (h : answer (sext40 v) s = .next t) :
    t.rsp.data.toInt = v ∧ |t.rsp.data.toInt| < 2 ^ 20 := by
  rw [answer_rsp_data h, sext40_toInt hv]
  exact ⟨rfl, hv⟩

/-- Every unit conversion of a 16-bit temperature is below 2^20 in magnitude (R169): the largest is 18 * 32767 + 3200. -/
theorem unit_conversions_bounded (temp : BitVec 16) :
    |toCelsius temp.toInt| < 2 ^ 20 ∧ |toFahrenheit temp.toInt| < 2 ^ 20 ∧ |toKelvin temp.toInt| < 2 ^ 20 := by
  have hlow : -32768 ≤ temp.toInt := temp.le_toInt
  have hhigh : temp.toInt < 32768 := temp.toInt_lt
  simp only [toCelsius, toFahrenheit, toKelvin, abs_lt]
  omega

/-- Settles O12: each conversion of a 16-bit temperature fits the response data. -/
theorem temperatureAnswersAreExact : Obligations.TemperatureAnswersAreExact := by
  intro s t
  obtain ⟨hcelsius, hfahrenheit, hkelvin⟩ := unit_conversions_bounded s.temp
  exact ⟨answer_sext40_exact hcelsius, answer_sext40_exact hfahrenheit, answer_sext40_exact hkelvin⟩

/-! ### The committed reading -/

/-- The sign of a DHT22 temperature is the top bit of byte 2 (R164). -/
theorem temperatureSign_eq (b : Byte) : b.getLsbD 7 = decide (128 ≤ b.toNat) :=
  b.msb_eq_getLsbD_last.symm.trans b.msb_eq_decide

/-- The magnitude of a DHT22 temperature takes byte 2 without its top bit (R85). -/
theorem rawT_eq (f : Frame) : rawT f = 256 * (f.temperatureHigh.toNat % 128) + f.temperatureLow.toNat := by
  rw [rawT, BitVec.extractLsb'_toNat]
  rfl

/-- A DHT22 temperature with the sign bit clear. -/
theorem dht22Temp_of_lt {f : Frame} (h : f.temperatureHigh.toNat < 128) :
    dht22Temp f = 256 * (f.temperatureHigh.toNat : Int) + f.temperatureLow.toNat := by
  rw [dht22Temp, temperatureSign_eq, decide_eq_false (Nat.not_le.mpr h), rawT_eq, Nat.mod_eq_of_lt h]
  simp

/-- A DHT22 temperature with the sign bit set. -/
theorem dht22Temp_of_ge {f : Frame} (h : 128 ≤ f.temperatureHigh.toNat) :
    dht22Temp f = -(256 * ((f.temperatureHigh.toNat : Int) - 128) + f.temperatureLow.toNat) := by
  have hbyte := f.temperatureHigh.isLt
  rw [dht22Temp, temperatureSign_eq, decide_eq_true h, if_pos rfl, rawT_eq]
  omega

/-- Check with a valid frame commits it (R189). -/
theorem step_of_commits {s : State} (hr : s.now.rst = false) (hs : s.commits) : step s = .next (commit s) := by
  obtain ⟨hst, hok⟩ := hs
  have htick : busyTick s = tickCheck s := by simp only [busyTick, hst]
  rw [step_busy s hr (by simp [hst]), htick, tickCheck, if_pos hok]

/-- Settles O27: the tick is a commit, whose readings are the frame's conversion. -/
theorem committedReadingIsTheConversion : Obligations.CommittedReadingIsTheConversion := by
  intro s t hr hst hok h
  obtain rfl := Host.Outcome.next.inj ((step_of_commits hr ⟨hst, hok⟩).symm.trans h)
  obtain ⟨htemp, hhum⟩ := commit_readings s
  refine ⟨fun hdht11 => ?_, fun hdht22 => ?_⟩
  · rw [hdht11] at htemp hhum
    exact ⟨htemp, hhum⟩
  · rw [hdht22] at htemp hhum
    exact ⟨hhum, fun hlt => htemp.trans (dht22Temp_of_lt hlt), fun hge => htemp.trans (dht22Temp_of_ge hge)⟩

end Sys2Proof.Machine

/-! The commands and Check with their whole next states (R180 to R189), `SINCE` in every tick (R190), and the response to an
accepted READ: a transaction ends in Idle, with its only response, 252 to 30761 ticks after the acceptance (R188, R245). -/

namespace Sys2Proof

/-- Byte `j` stands in its place in the word in wire order (R64, R82). -/
theorem Frame.word_extract (f : Frame) (j : Fin 5) : f.word.extractLsb' (8 * (4 - j.val)) 8 = f.byte j := by
  refine BitVec.eq_of_getLsbD_eq fun m hm => ?_
  rw [BitVec.getLsbD_extractLsb', decide_eq_true hm, Bool.true_and, Nat.add_comm, f.word_getLsbD j hm]

end Sys2Proof

namespace Sys2Proof.Machine

/-! ### The commands -/

/-- READ after the cooldown enters AwaitIdle and restarts `SINCE` (R180). -/
theorem exec_read_of_cooled {s : State} (hl : 2000000 ≤ s.since.toNat) :
    exec .read s = .next { s.elapse.goto .awaitIdle with since := 1 } :=
  if_neg hl.not_gt

/-- An answer writes no register but `SINCE`'s default (R181 to R185). -/
theorem answer_eq_onlyTicks (d : BitVec 40) (s : State) : answer d s = .next (s.onlyTicks ⟨true, 0, s.valid, d⟩) := rfl

/-- Settles O8: the READ is not rate-limited. -/
theorem acceptedReadStartsTransaction : Obligations.AcceptedReadStartsTransaction :=
  fun _ hl => exec_read_of_cooled hl

/-- Settles O10: the three queries are answers. -/
theorem temperatureQueriesAnswer : Obligations.TemperatureQueriesAnswer :=
  fun _ => ⟨answer_eq_onlyTicks .., answer_eq_onlyTicks .., answer_eq_onlyTicks ..⟩

/-- Settles O11: `HUM` fits the response data, and `RAW` stands in it byte by byte. -/
theorem humidityAndRawQueriesAnswer : Obligations.HumidityAndRawQueriesAnswer := by
  intro s
  have hraw := s.raw.word_extract
  exact ⟨⟨_, answer_eq_onlyTicks .., BitVec.toNat_setWidth_of_le (by decide)⟩,
    _, answer_eq_onlyTicks .., hraw 0, hraw 1, hraw 2, hraw 3, hraw 4⟩

/-! ### Check -/

/-- Check with an invalid frame takes the error exit (R189). -/
theorem step_of_mismatch {s : State} (hr : s.now.rst = false) (hs : s.st = .check) (hbad : checksumOk s.frame = false) :
    step s = .next (raiseError .checksumMismatch s) := by
  have htick : busyTick s = tickCheck s := by simp only [busyTick, hs]
  rw [step_busy s hr (by simp [hs]), htick, tickCheck, hbad]
  rfl

/-- Settles O26: a frame is valid when its sum is its checksum byte; Check commits a valid frame and rejects any other. -/
theorem checkCommitsOrRejects : Obligations.CheckCommitsOrRejects := by
  intro s hr hs
  have hvalid : checksumOk s.frame = true ↔ dataSum s.frame % 256 = s.frame.checksum.toNat := by
    rw [checksumOk, beq_iff_eq, eq_comm]
  refine ⟨fun hsum => ?_, fun hsum => ?_⟩
  · exact ⟨_, _, step_of_commits hr ⟨hs, hvalid.mpr hsum⟩, commit_readings s⟩
  · exact step_of_mismatch hr hs (Bool.eq_false_iff.mpr fun hok => hsum (hvalid.mp hok))

/-! ### `SINCE` -/

/-- Settles O37: the tick that accepts a READ restarts `SINCE`, every other counts. -/
theorem sinceCountsOrRestarts : Obligations.SinceCountsOrRestarts := by
  intro s t hr h
  refine ⟨fun ha => ?_, fun hn => ?_⟩
  · rw [step_since_of_accepts ha h]; rfl
  · rw [tickCase_since_of_not_accepts hr (step_tickCase s t hr h) hn, sinceNext_toNat]

/-! ### The response to an accepted READ -/

/-- The tick that accepts a READ (R180). -/
theorem step_of_accepts {s : State} (ha : s.accepts) :
    step s = .next { s.elapse.goto .awaitIdle with since := 1 } := by
  obtain ⟨hr, hs, hc, hw, hl⟩ := ha
  rw [step_idle s hr hs, idleWith_instr exec s .read hc ((decode_eq_read_iff _).mpr hw), exec_read_of_cooled hl]

/-- `s` with `i` in `BITI` and no reading held. -/
def State.withBitIndex (s : State) (i : BitVec 6) : State := { s with biti := i, valid := false }

/-- A transaction is under way and in time: the invariant of R49 holds but for what an accepted READ leaves as it finds it,
the results, and `BITI` until AckHigh clears it. -/
structure State.Underway (s : State) : Prop where
  busy : s.st ≠ .idle
  inv : ∃ i, (s.st ∈ [St.bitSync, .bitRise, .bitHigh] → i = s.biti) ∧ (s.withBitIndex i).Inv

/-- A tick without reset keeps the whole invariant of R49. -/
theorem tickCase_inv {s t : State} (h : TickCase s t) (hi : s.Inv) : t.Inv := by
  obtain ⟨htmr, hstep⟩ := tickCase_timed h hi
  obtain ⟨_, hbiti, _, _, hres⟩ := hi
  exact ⟨htmr, tickCase_bitiInRange h hbiti, tickCase_sinceInRange h, hstep, tickCase_resultsCoherent h hres⟩

/-- A tick inside a transaction does the same with any index in `BITI` where no bit is received. -/
theorem tickCase_withBitIndex {s t : State} {i : BitVec 6} (h : TickCase s t) (hs : s.st ≠ .idle) (ht : t.st ≠ .idle)
    (hi : s.st ∈ [St.bitSync, .bitRise, .bitHigh] → i = s.biti) :
    ∃ j, (t.st ∈ [St.bitSync, .bitRise, .bitHigh] → j = t.biti) ∧ TickCase (s.withBitIndex i) (t.withBitIndex j) := by
  cases h
  case quiet hidle _ | reserved hidle _ _ | rateLimited hidle _ _ _ | accepted hidle _ _ _ | query hidle _ _ _ _ _ =>
    exact absurd hidle hs
  case waitFailed | bitHighFailed | committed | rejected => exact absurd rfl ht
  case waitMet row hrow hst hl =>
    obtain ⟨_, _, _, _, _, hbits⟩ := waits_bits row (List.mem_cons_of_mem _ hrow)
    exact ⟨i, fun hnext => hi (hst ▸ hbits hrow hnext), .waitMet row hrow hst hl⟩
  case waitCounts row hrow hst hl hlim => exact ⟨i, hi, .waitCounts row hrow hst hl hlim⟩
  case startLowEnds hst hend => exact ⟨i, nofun, .startLowEnds hst hend⟩
  case startLowCounts hst hend => exact ⟨i, hi, .startLowCounts hst hend⟩
  case startHighEnds hst hend => exact ⟨i, nofun, .startHighEnds hst hend⟩
  case startHighCounts hst hend => exact ⟨i, hi, .startHighCounts hst hend⟩
  case ackHighMet hst hl => exact ⟨0, fun _ => rfl, .ackHighMet hst hl⟩
  case bitHighCounts hst hl hlim => exact ⟨i, hi, .bitHighCounts hst hl hlim⟩
  case decoded hst => exact ⟨i, nofun, .decoded hst⟩
  case lastCapture hst hl hb =>
    obtain rfl := hi (by simp [hst])
    exact ⟨s.biti, nofun, .lastCapture hst hl hb⟩
  case capture hst hl hb =>
    obtain rfl := hi (by simp [hst])
    exact ⟨s.biti + 1, fun _ => rfl, .capture hst hl hb⟩

/-- A tick keeps a transaction under way unless it ends it. -/
theorem underway_tick {s t : State} (h : TickCase s t) (hs : s.Underway) (ht : t.st ≠ .idle) : t.Underway := by
  obtain ⟨hbusy, i, hi, hinv⟩ := hs
  obtain ⟨j, hj, htick⟩ := tickCase_withBitIndex h hbusy ht hi
  exact ⟨ht, j, hj, tickCase_inv htick hinv⟩

/-- An accepted READ puts a transaction under way. -/
theorem underway_of_accepts {s t : State} (ha : s.accepts) (h : step s = .next t) : t.Underway := by
  obtain rfl := Host.Outcome.next.inj ((step_of_accepts ha).symm.trans h)
  have hsince : (1 : BitVec 21).toNat ≤ 2000000 := by decide
  exact ⟨nofun, 0, nofun, Nat.zero_le _, Nat.zero_le _, ⟨le_rfl, hsince⟩, fun _ => ⟨le_rfl, le_rfl⟩, nofun⟩

/-- In a transaction `SINCE` lies between the bounds of R246, for some index of the bit. -/
theorem State.Underway.since_bounds {s : State} (hs : s.Underway) :
    ∃ i, s.st.earliest i + s.tmr.toNat ≤ s.since.toNat ∧ s.since.toNat ≤ 30761 := by
  obtain ⟨hbusy, i, _, htmr, hbiti, _, hstep, _⟩ := hs
  obtain ⟨hleast, hmost⟩ := hstep hbusy
  have hlast := latest_add_tmrCeiling_le s.st hbiti
  exact ⟨i.toNat, hleast, hmost.trans ((Nat.add_le_add_left htmr _).trans hlast)⟩

/-- A wait that fails does so at least 252 ticks after the acceptance: AwaitIdle exactly then, the others far later (R246). -/
theorem waits_fail_from_252 : ∀ row ∈ ackHighWait :: pureWaits, ∀ i, 252 ≤ row.state.earliest i + (row.limit + 1) := by
  intro row hrow i
  simp only [ackHighWait, pureWaits, List.mem_cons, List.not_mem_nil, or_false] at hrow
  rcases hrow with rfl | rfl | rfl | rfl | rfl | rfl <;> simp only [St.earliest] <;> omega

/-- A tick that ends a transaction responds, and comes no earlier than BusBusy's, 252 ticks after the acceptance (R245). -/
theorem tickCase_ends {s t : State} (h : TickCase s t) (hs : s.st ≠ .idle) (ht : t.st = .idle) :
    t.tmr = 0 ∧ t.rsp.valid = true ∧ ∀ i, 252 ≤ s.st.earliest i + s.tmr.toNat := by
  cases h
  case quiet hidle _ | reserved hidle _ _ | rateLimited hidle _ _ _ | accepted hidle _ _ _ | query hidle _ _ _ _ _ =>
    exact absurd hidle hs
  case waitMet row hrow _ _ => exact absurd ht (wait_next_ne_idle (List.mem_cons_of_mem _ hrow))
  case waitCounts | startLowCounts | startHighCounts | bitHighCounts => exact absurd ht hs
  case ackHighMet | startLowEnds | startHighEnds | lastCapture | capture | decoded => exact absurd ht nofun
  case waitFailed row hrow hst _ hlim _ _ =>
    refine ⟨rfl, rfl, fun i => (waits_fail_from_252 row hrow i).trans ?_⟩
    rw [hst]
    exact Nat.add_le_add_left hlim _
  case bitHighFailed hst _ _ | committed hst _ | rejected hst _ =>
    refine ⟨rfl, rfl, fun i => ?_⟩
    simp only [hst, St.earliest]
    omega

/-- The block is busy at the start of each tick after this one up to the `k`th. -/
def State.busyFor (s : State) (k : Nat) : Prop := ∀ j u, 1 ≤ j → j ≤ k → runTicks j s = .next u → u.st ≠ .idle

/-- While the block stays busy after an accepted READ, the transaction is under way and `SINCE` is its age. -/
theorem runTicks_underway {s u : State} {k : Nat} (ha : s.accepts) (hk : 1 ≤ k) (hr : s.noResetFor k)
    (hbusy : s.busyFor k) (hrun : runTicks k s = .next u) : u.Underway ∧ u.since.toNat = min k 2000000 := by
  refine ⟨?_, sinceMeasuresTheTicksSinceAcceptance s u k ha hk hr
    (fun j v h1 hj hv hacc => hbusy j v h1 hj.le hv hacc.2.1) hrun⟩
  induction k, hk using Nat.le_induction generalizing u with
  | base =>
    obtain ⟨v, hfirst, hv⟩ := runTicks_succ_inv 0 s u hrun
    obtain rfl := Host.Outcome.next.inj hv
    exact underway_of_accepts ha hfirst
  | succ k hk ih =>
    obtain ⟨v, hv, hlast⟩ := runTicks_succ_last_inv k s u hrun
    have hrst : v.now.rst = false := by rw [runTicks_now hv]; exact hr k (Nat.lt_succ_self k)
    have hprev := ih (fun j hj => hr j (hj.trans (Nat.lt_succ_self k)))
      (fun j w h1 hj => hbusy j w h1 (hj.trans (Nat.le_succ k))) hv
    exact underway_tick (step_tickCase v u hrst hlast) hprev (hbusy (k + 1) u (Nat.le_add_left 1 k) le_rfl hrun)

/-- A transaction ends: the block does not stay busy beyond tick 30761. -/
theorem not_busyFor_30762 {s : State} (ha : s.accepts) (hr : s.noResetFor 30762) : ¬ s.busyFor 30762 := by
  intro hbusy
  obtain ⟨u, hrun⟩ := runTicks_answers 30762 s
  obtain ⟨hu, hsince⟩ := runTicks_underway ha (by decide) hr hbusy hrun
  obtain ⟨_, _, hle⟩ := hu.since_bounds
  omega

/-- After an accepted READ the block is busy. -/
theorem busyFor_one {s : State} (ha : s.accepts) : s.busyFor 1 := by
  intro j u h1 hj hrun
  obtain rfl : j = 1 := Nat.le_antisymm hj h1
  obtain ⟨t, hfirst, ht⟩ := runTicks_succ_inv 0 s u hrun
  obtain rfl := Host.Outcome.next.inj ht
  exact (underway_of_accepts ha hfirst).busy

/-- A block that does not stay busy for `k` ticks has a last tick it is busy for, and is in Idle after it. -/
theorem exists_first_idle {s : State} {k : Nat} (h : ¬ s.busyFor k) :
    ∃ r < k, s.busyFor r ∧ ∃ t, runTicks (r + 1) s = .next t ∧ t.st = .idle := by
  induction k with
  | zero => exact absurd (fun j _ h1 hj => absurd (h1.trans hj) nofun) h
  | succ k ih =>
    by_cases hk : s.busyFor k
    · obtain ⟨t, ht⟩ := runTicks_answers (k + 1) s
      refine ⟨k, Nat.lt_succ_self k, hk, t, ht, by_contra fun hne => h fun j u h1 hj hu => ?_⟩
      rcases Nat.le_succ_iff.mp hj with hlt | rfl
      · exact hk j u h1 hlt hu
      · obtain rfl := Host.Outcome.next.inj (ht.symm.trans hu)
        exact hne
    · obtain ⟨r, hlt, hr⟩ := ih hk
      exact ⟨r, hlt.trans (Nat.lt_succ_self k), hr⟩

/-- Settles O42: the block is busy until a first tick that leads to Idle; until then the transaction is under way in silence,
so that tick is in time and responds. -/
theorem everyAcceptedReadIsAnsweredOnce : Obligations.EveryAcceptedReadIsAnsweredOnce := by
  intro s ha hr
  obtain ⟨r, hlt, hbusy, t, hrun, ht⟩ := exists_first_idle (not_busyFor_30762 ha hr)
  have hpos : 1 ≤ r := by
    refine Nat.one_le_iff_ne_zero.mpr ?_
    rintro rfl
    exact busyFor_one ha 1 t le_rfl le_rfl hrun ht
  obtain ⟨u, hu, hlast⟩ := runTicks_succ_last_inv r s t hrun
  have hrst : u.now.rst = false := by rw [runTicks_now hu]; exact hr r hlt
  obtain ⟨hunder, hsince⟩ := runTicks_underway ha hpos (fun j hj => hr j (hj.trans hlt)) hbusy hu
  obtain ⟨htmr, hvalid, hends⟩ := tickCase_ends (step_tickCase u t hrst hlast) hunder.busy ht
  obtain ⟨i, hleast, _⟩ := hunder.since_bounds
  have hearly := hends i
  refine ⟨r, t, by omega, by omega, hrun, ht, htmr, hvalid, fun j v h1 hj hv => ?_⟩
  have hv' := hbusy j v h1 hj hv
  exact ⟨hv', runTicks_silent_of_busy h1 hv hv'⟩

end Sys2Proof.Machine

/-! The errors: READ in the cooldown (R201), the table of which state raises which error (R222), the error exit with its whole
next state (R213), and the absent sensor on a pulled-up line (R204). -/

namespace Sys2Proof.Machine

/-- Settles O9: the READ is rate-limited, and the answer to it writes nothing else. -/
theorem readInCooldownIsRateLimited : Obligations.ReadInCooldownIsRateLimited :=
  fun _ hl => if_pos hl

/-! ### Which state raises which error (R222) -/

/-- The table of R222: this tick, if it is no reset tick, raises the error with code `c`. A wait raises the error of its row. -/
def State.Raises (s : State) (c : BitVec 4) : Prop :=
  (c = 1 ∧ s.st = .idle ∧ s.now.cmdValid = true ∧ s.now.cmd = 0x10 ∧ s.since.toNat < 2000000) ∨
  (c = 15 ∧ s.st = .idle ∧ s.now.cmdValid = true ∧ s.now.cmd ∉ [0x10#8, 0x20#8, 0x21#8, 0x22#8, 0x30#8, 0x40#8]) ∨
  (∃ row ∈ ackHighWait :: pureWaits,
    c = row.code ∧ s.st = row.state ∧ s.now.sdaIn ≠ row.level ∧ row.limit < s.tmr.toNat) ∨
  (c = 6 ∧ s.st = .bitHigh ∧ s.now.sdaIn ≠ .low ∧ 100 < s.tmr.toNat) ∨
  (c = 7 ∧ s.st = .check ∧ checksumOk s.frame = false)

/-- The six words of R88 are not reserved. -/
theorem notMem_of_decode_reserved {w : Byte} {r : Reserved} (hd : decode w = .reserved r) :
    w ∉ [0x10#8, 0x20#8, 0x21#8, 0x22#8, 0x30#8, 0x40#8] := by
  have hsix : ∀ w ∈ [0x10#8, 0x20#8, 0x21#8, 0x22#8, 0x30#8, 0x40#8], (decode w).toOption ≠ none := by decide
  intro hw
  refine hsix w hw ?_
  rw [hd, Decoded.toOption]

/-- A tick that answers with an error is in the table. -/
theorem tickCase_raises {s t : State} (h : TickCase s t) (hv : t.rsp.valid = true) (hc : t.rsp.status ≠ 0) :
    s.Raises t.rsp.status := by
  cases h
  case rateLimited hs hcv hd hl => exact .inl ⟨rfl, hs, hcv, (decode_eq_read_iff _).mp hd, hl⟩
  case reserved hs hcv hd =>
    obtain ⟨r, hd⟩ := hd
    exact .inr (.inl ⟨rfl, hs, hcv, notMem_of_decode_reserved hd⟩)
  case waitFailed row hrow hs hl ht e he => exact .inr (.inr (.inl ⟨row, hrow, he, hs, hl, ht⟩))
  case bitHighFailed hs hl ht => exact .inr (.inr (.inr (.inl ⟨rfl, hs, hl, ht⟩)))
  case rejected hs hk => exact .inr (.inr (.inr (.inr ⟨rfl, hs, hk⟩)))
  case query | committed => exact absurd rfl hc
  all_goals exact absurd hv nofun

/-- A tick in the table answers with its error. -/
theorem step_of_raises {s : State} {c : BitVec 4} (hr : s.now.rst = false) (h : s.Raises c) :
    ∃ t, step s = .next t ∧ t.rsp.valid = true ∧ t.rsp.status = c := by
  rcases h with ⟨rfl, hs, hcv, hw, hl⟩ | ⟨rfl, hs, hcv, hw⟩ | ⟨row, hrow, rfl, hs, hl, ht⟩ | ⟨rfl, hs, hl, ht⟩ |
    ⟨rfl, hs, hk⟩
  · have hread := (stepRunsTheDecodedCommand s hr hs).1 .read hcv ((decode_eq_read_iff _).mpr hw)
    exact ⟨_, hread.trans (readInCooldownIsRateLimited s hl), rfl, rfl⟩
  · exact ⟨_, reservedWordsAnswerBadCommand.2 s hr hs hcv hw, rfl, rfl⟩
  · refine ⟨_, step_wait hrow hr hs, ?_⟩
    rw [busyTick_of_failed hrow hs hl ht]
    exact ⟨rfl, rfl⟩
  · refine ⟨_, step_busy s hr (by simp [hs]), ?_⟩
    rw [busyTick_bitHigh hs, tickBitHigh, tData_value, if_neg hl, if_pos ht]
    exact ⟨rfl, rfl⟩
  · exact ⟨_, step_of_mismatch hr hs hk, rfl, rfl⟩

/-- A tick without reset answers with an error exactly when it is in the table. -/
theorem step_error_iff {s t : State} (hr : s.now.rst = false) (h : step s = .next t) {c : BitVec 4} (hc : c ≠ 0) :
    (t.rsp.valid = true ∧ t.rsp.status = c) ↔ s.Raises c := by
  constructor
  · rintro ⟨hv, rfl⟩
    exact tickCase_raises (step_tickCase s t hr h) hv hc
  · intro hraises
    obtain ⟨u, hu, hrsp⟩ := step_of_raises hr hraises
    obtain rfl := Host.Outcome.next.inj (hu.symm.trans h)
    exact hrsp

theorem level_ne_high_iff (l : Level) : l ≠ .high ↔ l = .low := by cases l <;> decide

theorem level_ne_low_iff (l : Level) : l ≠ .low ↔ l = .high := by cases l <;> decide

/-- Settles O32: an answer with an error is a row of the table with its code, and for each code these are the rows stated
(`or_comm` since the table has AckHigh's wait before AckLow's). -/
theorem errorsMatchTheTable : Obligations.ErrorsMatchTheTable := by
  intro s t hr h
  refine ⟨?_, ?_, ?_, ?_, ?_, ?_, ?_, ?_⟩ <;> rw [step_error_iff hr h (by decide)] <;>
    simp [State.Raises, ackHighWait, pureWaits, level_ne_high_iff, level_ne_low_iff, or_comm]

/-! ### The error exit (R213) -/

/-- An answer with a code other than 0, RateLimited's and BadCommand's is an error exit. -/
theorem tickCase_eq_raiseError {s t : State} (h : TickCase s t) (hv : t.rsp.valid = true)
    (hc : t.rsp.status ∉ [0#4, 1#4, 15#4]) : ∃ e, t = raiseError e s := by
  cases h
  case waitFailed | bitHighFailed | rejected => exact ⟨_, rfl⟩
  case reserved | rateLimited | query | committed => exact absurd (by simp [commit, Status.code]) hc
  all_goals exact absurd hv nofun

/-- Settles O33: the codes 2 to 7 come from the error exit alone. -/
theorem errorExitWritesStateAndTimerOnly : Obligations.ErrorExitWritesStateAndTimerOnly := by
  intro s t hr h hv hc
  have hother : ∀ c ∈ [2#4, 3#4, 4#4, 5#4, 6#4, 7#4], c ∉ [0#4, 1#4, 15#4] := by decide
  obtain ⟨e, rfl⟩ := tickCase_eq_raiseError (step_tickCase s t hr h) hv (hother _ hc)
  exact raiseError_eq e s

/-! ### The absent sensor (R204) -/

/-- `t` is in Idle with the error of code `c` on the response port, and the results are those of `s`. -/
def State.Fails (s : State) (c : BitVec 4) (t : State) : Prop :=
  t.st = .idle ∧ t.rsp = ⟨true, c, s.valid, 0⟩ ∧ t.raw = s.raw ∧ t.temp = s.temp ∧ t.hum = s.hum ∧ t.valid = s.valid

/-- A wait that sees the other level for two samples more than its limit fails (R114). -/
theorem leadsTo_wait_fails {row : WaitRow} {c : State} {l : Level} (hrow : row ∈ ackHighWait :: pureWaits)
    (hc : c.st = row.state) (hl : l ≠ row.level) :
    LeadsTo (At c 0) (List.replicate (row.limit + 1) l ++ [l]) (c.Fails row.code) := by
  refine (leadsTo_wait_counts hrow hc hl (Nat.zero_add _).le).append ?_
  refine leadsTo_tick (hc ▸ (wait_busy_and_limit_le hrow).1) fun s hs hline => ?_
  rw [busyTick_of_failed hrow (hs.st.trans hc) (hline ▸ hl) (by rw [hs.tmr]; omega), hs.valid]
  exact ⟨rfl, rfl, hs.raw, hs.temp, hs.hum, hs.valid⟩

/-- With the line High from then on, an accepted READ passes AwaitIdle, the start signal and AwaitAck, and fails in AckLow. -/
theorem leadsTo_absentSensor (c : State) (l : Level) :
    LeadsTo (fun s => s.accepts ∧ s = c) (l :: List.replicate 18105 Level.high) (c.Fails 4) := by
  have hidle : LeadsTo (At (c.goto .awaitIdle) 0) (List.replicate 1 Level.high) (At (c.goto .startLow) 0) :=
    leadsTo_wait (x := .awaitIdle) (l := .low) (limit := 250) (code := 2) (k := 0) (by decide) rfl nofun (by decide)
  have hstart : LeadsTo (At (c.goto .startLow) 0) (List.replicate 18001 Level.high) (At (c.goto .awaitAck) 0) :=
    leadsTo_startSignal rfl List.length_replicate
  have hack : LeadsTo (At (c.goto .awaitAck) 0) (List.replicate 1 Level.high) (At (c.goto .ackLow) 0) :=
    leadsTo_wait (x := .awaitAck) (l := .low) (limit := 60) (code := 3) (k := 0) (by decide) rfl nofun (by decide)
  have hfail : LeadsTo (At (c.goto .ackLow) 0) (List.replicate (100 + 1) Level.high ++ [.high]) (c.Fails 4) :=
    leadsTo_wait_fails (row := ⟨.ackLow, .low, 100, 4, .ackHigh⟩) (by decide) rfl nofun
  have hwhole := ((hidle.append hstart).append hack).append hfail
  rw [← List.append_assoc, ← List.replicate_one] at hwhole
  simp only [List.replicate_append_replicate] at hwhole
  exact (leadsTo_accepted c l).cons hwhole

/-- One level shown for the `k` ticks after this one is seen after what the line shows now. -/
theorem sees_now_cons_replicate {s : State} {k : Nat} {l : Level} (hr : s.noResetFor (k + 1))
    (hl : ∀ j ≤ k, 1 ≤ j → (s.inputAt j).sdaIn = l) : s.Sees (s.now.sdaIn :: List.replicate k l) := by
  refine sees_of_getElem (by rwa [List.length_cons, List.length_replicate]) fun j hj => ?_
  rw [List.length_cons, List.length_replicate] at hj
  cases j with
  | zero => rfl
  | succ j =>
    rw [List.getElem_cons_succ, List.getElem_replicate]
    exact hl (j + 1) (Nat.le_of_lt_succ hj) (Nat.succ_pos j)

/-- Settles O49: the READ fails in AckLow, whose last sample is the 18105th after the acceptance. -/
theorem absentSensorIsBadStart : Obligations.AbsentSensorIsBadStart := by
  intro s ha hr hl
  obtain ⟨t, hrun, hfails⟩ := leadsTo_absentSensor s s.now.sdaIn s ⟨ha, rfl⟩ (sees_now_cons_replicate hr hl)
  rw [List.length_cons, List.length_replicate] at hrun
  exact ⟨t, hrun, hfails⟩

end Sys2Proof.Machine

/-! The bounds on the time of a response (R245), the cooldown between accepted READs (R237), the reset tick (R230), and what
shows of the unspecified values of the results while `VALID` = 0 (R231). -/

namespace Sys2Proof.Machine

/-! ### Times -/

/-- Settles O41: a tick that responds ends the transaction, and there `TMR` and the bounds of the invariant give the time;
BusBusy and NotPresent come only from the last sample of their wait. -/
theorem responseTimesLieWithinTheirBounds : Obligations.ResponseTimesLieWithinTheirBounds := by
  intro s t hi hr h hs hv
  have hidle : t.st = .idle := by_contra fun hne => absurd (hv.symm.trans (step_silent_of_busy h hne)) nofun
  obtain ⟨_, _, hends⟩ := tickCase_ends (step_tickCase s t hr h) hs hidle
  obtain ⟨_, _, hbusBusy, hnotPresent, _⟩ := errorsMatchTheTable s t hr h
  obtain ⟨htmr, hbiti, _, hstep, _⟩ := hi
  obtain ⟨hleast, hmost⟩ := hstep hs
  have hlast := latest_add_tmrCeiling_le s.st hbiti
  rw [State.tmrInRange] at htmr
  refine ⟨(hends _).trans hleast, by omega, fun hst => ?_, fun hc => ?_, fun hc => ?_⟩
  · simp only [hst, St.earliest] at hleast
    omega
  · obtain ⟨hst, _, hlate⟩ := hbusBusy.mp ⟨hv, hc⟩
    simp only [hst, St.earliest, St.latest, St.tmrCeiling] at hleast hmost htmr
    omega
  · obtain ⟨hst, _, hlate⟩ := hnotPresent.mp ⟨hv, hc⟩
    simp only [hst, St.earliest, St.latest, St.tmrCeiling] at hleast hmost htmr
    omega

/-- Settles O44, by strong induction on the ticks since the acceptance: with no other acceptance before, `SINCE` is their
number, which is below the cooldown. -/
theorem acceptedReadsAreTwoSecondsApart : Obligations.AcceptedReadsAreTwoSecondsApart := by
  intro s u k ha hk hlt hr hrun hacc
  induction k using Nat.strong_induction_on generalizing u with
  | _ k ih =>
    have hnone : ∀ j v, 1 ≤ j → j < k → runTicks j s = .next v → ¬ v.accepts := fun j v h1 hj hv =>
      ih j hj v h1 (hj.trans hlt) (fun i hi => hr i (hi.trans hj)) hv
    have hsince := sinceMeasuresTheTicksSinceAcceptance s u k ha hk hr hnone hrun
    obtain ⟨_, _, _, _, hcooled⟩ := hacc
    omega

/-! ### Reset -/

/-- The strap is 1 for a DHT22 (R35). -/
theorem ofStrap_eq_ite (b : Bool) : Family.ofStrap b = if b then .dht22 else .dht11 := by
  cases b <;> rfl

/-- Settles O19: a reset tick leads to the reset values, with the family the strap names. -/
theorem resetTickTakesResetValues : Obligations.ResetTickTakesResetValues := by
  intro s hr
  exact ⟨tickReset s, step_reset s hr, rfl, rfl, rfl, rfl, rfl, ofStrap_eq_ite _, rfl, rfl⟩

/-! ### Ticks with other values in `RAW`, `TEMP` and `HUM` -/

/-- `s` with other values in `RAW`, `TEMP` and `HUM`. -/
def State.withReadings (s : State) (r : Frame) (x h : BitVec 16) : State := { s with raw := r, temp := x, hum := h }

/-- `u` is `s` but for the values of the results while `VALID` = 0, and for the data of a response of status 0 with
`rsp_dv` = 0 (R231). -/
structure State.Alike (s u : State) : Prop where
  same : u = { s.withReadings u.raw u.temp u.hum with rsp := { s.rsp with data := u.rsp.data } }
  results : s.valid = true → u.raw = s.raw ∧ u.temp = s.temp ∧ u.hum = s.hum
  data : s.rsp.dv = true ∨ s.rsp.valid = false ∨ s.rsp.status ≠ 0 → u.rsp.data = s.rsp.data

theorem State.Alike.refl (s : State) : s.Alike s := ⟨rfl, fun _ => ⟨rfl, rfl, rfl⟩, fun _ => rfl⟩

/-- The whole response port agrees where its data does. -/
theorem State.Alike.rsp_eq {s u : State} (ha : s.Alike u)
    (h : s.rsp.dv = true ∨ s.rsp.valid = false ∨ s.rsp.status ≠ 0) : u.rsp = s.rsp := by
  rw [ha.same, ha.data h]

section withReadings

variable (s : State) (r : Frame) (x h : BitVec 16)

@[simp] theorem withReadings_st : (s.withReadings r x h).st = s.st := rfl
@[simp] theorem withReadings_frame : (s.withReadings r x h).frame = s.frame := rfl

/-- Without a good read, other results are alike. -/
theorem alike_withReadings (hv : s.valid = false) : s.Alike (s.withReadings r x h) :=
  ⟨rfl, fun hvalid => absurd (hv.symm.trans hvalid) nofun, fun _ => rfl⟩

/-- The timed wait neither reads nor writes the results. -/
theorem timedWait_withReadings (l : Level) (n : Nat) (e : Status) (y : St) :
    timedWait l n e y (s.withReadings r x h) = (timedWait l n e y s).withReadings r x h := by
  simp only [timedWait, apply_ite (State.withReadings · r x h)]
  rfl

/-- Nor does the hold. -/
theorem hold_withReadings (n : Nat) (y : St) : hold n y (s.withReadings r x h) = (hold n y s).withReadings r x h := by
  simp only [hold, apply_ite (State.withReadings · r x h)]
  rfl

/-- A capture neither reads nor writes the results. -/
theorem capturePulse_withReadings : capturePulse (s.withReadings r x h) = (capturePulse s).withReadings r x h := by
  simp only [capturePulse, apply_ite (State.withReadings · r x h)]
  rfl

/-- The rule of a busy state carries other results along, unless it commits a read (R32). -/
theorem busyTick_withReadings (hn : ¬ s.commits) :
    busyTick (s.withReadings r x h) = (busyTick s).withReadings r x h := by
  cases hx : s.st <;> simp only [busyTick, hx, withReadings_st]
  case decode => rfl
  case startLow | startHigh => exact hold_withReadings ..
  case awaitIdle | awaitAck | ackLow | bitSync | bitRise => exact timedWait_withReadings ..
  case ackHigh =>
    simp only [tickAckHigh, timedWait_withReadings, apply_ite (State.withReadings · r x h)]
    rfl
  case bitHigh =>
    simp only [tickBitHigh, capturePulse_withReadings, apply_ite (State.withReadings · r x h)]
    rfl
  case check =>
    have hbad : checksumOk s.frame = false := Bool.eq_false_iff.mpr fun hk => hn ⟨hx, hk⟩
    simp only [tickCheck, withReadings_frame, hbad]
    rfl

/-- A command other than a query carries other results along; a query answers from them, with `rsp_dv` = `VALID`. -/
theorem exec_withReadings (hv : s.valid = false) (c : Instr) {t : State} (ht : exec c s = .next t) :
    ∃ v, exec c (s.withReadings r x h) = .next v ∧ t.Alike v := by
  cases c with
  | read =>
    have hkept : exec .read (s.withReadings r x h) = .next (t.withReadings r x h) := by
      rcases exec_cases .read s with ⟨_, hlt, he⟩ | ⟨_, hle, he⟩ | ⟨hne, _⟩
      · obtain rfl := Host.Outcome.next.inj (he.symm.trans ht)
        exact if_pos hlt
      · obtain rfl := Host.Outcome.next.inj (he.symm.trans ht)
        exact if_neg (Nat.not_lt.mpr hle)
      · exact absurd rfl hne
    have hvalid : t.valid = s.valid := congrArg (·.2.2.2) (exec_results ht)
    exact ⟨_, hkept, alike_withReadings t r x h (hvalid.trans hv)⟩
  | gettC | gettF | gettK | geth | getraw =>
    obtain rfl := Host.Outcome.next.inj ht
    exact ⟨_, rfl, rfl, fun hvalid => absurd (hv.symm.trans hvalid) nofun, by simp [hv, Status.code]⟩

/-- One tick without a good read before it: from other results it leads to a state alike. -/
theorem step_withReadings {t : State} (hv : s.valid = false) (ht : step s = .next t) :
    ∃ v, step (s.withReadings r x h) = .next v ∧ t.Alike v := by
  rcases step_cases s t ht with ⟨hr, rfl⟩ | ⟨hr, hs, hc, rfl⟩ | ⟨hr, hs, hc, ⟨w, hd⟩, rfl⟩ | ⟨hr, hs, hc, c, hd, he⟩ |
    ⟨hr, hs, rfl⟩
  · exact ⟨_, step_reset (s.withReadings r x h) hr, .refl _⟩
  · exact ⟨_, (step_idle (s.withReadings r x h) hr hs).trans (idleWith_quiet exec _ hc),
      alike_withReadings (tickIdle s) r x h hv⟩
  · exact ⟨_, (step_idle (s.withReadings r x h) hr hs).trans (idleWith_reserved exec _ w hc hd),
      alike_withReadings (tickReserved s) r x h hv⟩
  · rw [step_idle (s.withReadings r x h) hr hs, idleWith_instr exec (s.withReadings r x h) c hc hd]
    exact exec_withReadings s r x h hv c he
  · by_cases hcommits : s.commits
    · have htick : commit s = busyTick s := Host.Outcome.next.inj ((step_of_commits hr hcommits).symm.trans ht)
      rw [← htick]
      exact ⟨_, step_of_commits (s := s.withReadings r x h) hr hcommits, .refl _⟩
    · have hvalid : (busyTick s).valid = s.valid :=
        congrArg (·.2.2.2) (tickCase_results_of_not_commits (busyTick_tickCase s hs) hcommits)
      rw [step_busy (s.withReadings r x h) hr hs, busyTick_withReadings s r x h hcommits]
      exact ⟨_, rfl, alike_withReadings (busyTick s) r x h (hvalid.trans hv)⟩

end withReadings

/-- A step does not read the response port. -/
theorem step_with_rsp (s : State) (p : Rsp) : step { s with rsp := p } = step s :=
  step_congr rfl rfl rfl (fun _ => rfl) (fun _ _ => rfl) (fun _ _ _ => rfl) fun _ => rfl

/-- One tick from states alike leads to states alike. -/
theorem step_alike {s u t : State} (ha : s.Alike u) (ht : step s = .next t) : ∃ v, step u = .next v ∧ t.Alike v := by
  have hport : step u = step (s.withReadings u.raw u.temp u.hum) :=
    (congrArg step ha.same).trans (step_with_rsp ..)
  rw [hport]
  cases hv : s.valid with
  | false => exact step_withReadings s _ _ _ hv ht
  | true =>
    obtain ⟨hraw, htemp, hhum⟩ := ha.results hv
    rw [hraw, htemp, hhum]
    exact ⟨t, ht, .refl t⟩

/-- So does a run. -/
theorem runTicks_alike {k : Nat} {s u t : State} (ha : s.Alike u) (ht : runTicks k s = .next t) :
    ∃ v, runTicks k u = .next v ∧ t.Alike v := by
  induction k generalizing s u with
  | zero =>
    obtain rfl := Host.Outcome.next.inj ht
    exact ⟨u, rfl, ha⟩
  | succ k ih =>
    obtain ⟨s', hs', hrest⟩ := runTicks_succ_inv k s t ht
    obtain ⟨u', hu', ha'⟩ := step_alike ha hs'
    rw [runTicks_succ k u u' hu']
    exact ih ha' hrest

/-- Settles O51: without a good read the two states are alike, and every tick keeps them so. -/
theorem unspecifiedResultsShowOnlyWithoutDataValid : Obligations.UnspecifiedResultsShowOnlyWithoutDataValid := by
  intro k s t r x h hv ht
  obtain ⟨u, hu, ha⟩ := runTicks_alike (alike_withReadings s r x h hv) ht
  exact ⟨u, hu, (congrArg State.st ha.same :), (congrArg State.valid ha.same :), (congrArg (·.rsp.valid) ha.same :),
    (congrArg (·.rsp.status) ha.same :), (congrArg (·.rsp.dv) ha.same :), fun hdv => ha.rsp_eq (.inl hdv),
    fun hother => ha.rsp_eq (.inr hother), ha.results⟩

end Sys2Proof.Machine
